-- ==== Sys2Proof/Word.lean ====
section
/-! DEFINITION. The bytes of the link and the plainest arithmetic of the counters. -/

namespace Sys2Proof

/-- A byte of the serial link. -/
abbrev Byte := BitVec 8

/-- A count of 32 bits that wraps from FFFFFFFFh to 0 (R109, R138, R156, R204; 00_scope section 5.2). -/
def wrapInc (n : Nat) : Nat := (n + 1) % 4294967296

/-- A count of 8 bits that stays at 255 (R179, R183). -/
def holdInc (n : Nat) : Nat := if n < 255 then n + 1 else 255

/-- The fail-run counter: it rises by 1 and stays at 15 (R114). -/
def failInc (n : Nat) : Nat := if n < 15 then n + 1 else 15

/-- `n` lies in `lo..hi`. -/
def within (lo hi n : Nat) : Bool := decide (lo ≤ n) && decide (n ≤ hi)

/-- `n` lies in `lo..hi`, for signed numbers. -/
def withinInt (lo hi n : Int) : Bool := decide (lo ≤ n) && decide (n ≤ hi)

/-- `n` brought into `lo..hi`: the lower bound below it, the upper bound above it (R175). -/
def clampTo (lo hi n : Nat) : Nat := max lo (min hi n)

end Sys2Proof
end

