-- ==== Sys2Proof/Config.lean ====
section
/-! DEFINITION. The free values: constants with no body, so that no proof can know what they are.
Each stands where the spec gives a step its effect and leaves one value or one order open. -/

namespace Sys2Proof.Config

/-- The detail number of a raise whose rule states none (GATE_JAM of R18, STRAY_PART of R16, BOARD_LATE of
R145, R159 and R174, TABLE_TIMEOUT of a move, R131 with R173), applied to `State.drawn`. DESIGN CHOICE, assumption log 7. -/
opaque unstatedDetail : Nat → Nat

/-- The order, among those R16, R96 and R113 leave open, in which the parts of one event are taken, applied to
`State.drawn`. DESIGN CHOICE, assumption log 8. -/
opaque openOrder : Nat → Nat

/-- The value a signed 32-bit axis position takes when the exact value falls outside 32 bits; R119 states the width
and not the overflow. DESIGN CHOICE, assumption log 9. -/
opaque positionOverflow : Int → Int

/-- The bytes of a code record in a READ_CODE reply that stand beyond the list length; R202 states none.
Applied to `State.drawn` and the byte's place. DESIGN CHOICE, assumption log 10. -/
opaque padByte : Nat → Nat → Byte

/-- The levels of the left and the right cut-confirm input when READ_HEAD is taken (R155); no row of the table brings
their changes. Applied to `State.drawn`. DEDUCED, assumption log 22. -/
opaque cutConfirm : Nat → Bool × Bool

/-- The steps the controller issues to an axis in one ms, counted in the positive sense (R120); their timing is outside the
manual. Applied to `State.drawn` and the number of the axis. DESIGN CHOICE, assumption log 17. -/
opaque stepsIssued : Nat → Nat → Int

/-- The converter counts of the forward and the reverse reading that the front end returns (R104, R108) to a measurement that
ends on time with no row bringing them. Applied to `State.drawn`. DESIGN CHOICE, assumption log 42; 16 bits each, assumption log 43. -/
opaque converterCounts : Nat → BitVec 16 × BitVec 16

end Sys2Proof.Config
end

