-- ==== Sys2Proof/Syntax.lean ====
section
/-! DEFINITION. The commands of the block: one constructor for each row of spec/opcode_table.json, with the operands
the row's rule gives it. A host command carries its tag (R197) and the fields of its payload, in the order of its rule;
a machine event carries what the machine's wiring shows the controller in that event. -/

namespace Sys2Proof

/-- The four axes: three of the table and the span axis of the head (R119, R140). -/
inductive Axis where
  | x | y | r | span
  deriving DecidableEq, Repr

/-- The three kinds of debounced input (R166). -/
inductive SlowInput where
  | tape (station : Fin 80)
  | airOk
  | guardClosed
  deriving DecidableEq, Repr

/-- The two waits of the BOARD watch (R174). -/
inductive BoardWait where
  | transport | head
  deriving DecidableEq, Repr

/-- A side of the panel, for the lead sensors and the cut-confirm inputs (section 8.1). -/
inductive Side where
  | left | right
  deriving DecidableEq, Repr

/-- The machine inputs that are taken as they arrive, and the two strap pins (sections 7.1, 8.1, R157, R196).
`true` is made, or high for a strap. -/
structure Pins where
  headTop     : Bool := false
  clinchHome  : Bool := false
  jawsOpen    : Bool := false
  cutLeft     : Bool := false
  cutRight    : Bool := false
  entrySensor : Bool := false
  stopSensor  : Bool := false
  exitSensor  : Bool := false
  clampClosed : Bool := false
  clampOpen   : Bool := false
  homeX       : Bool := false
  homeY       : Bool := false
  homeR       : Bool := false
  homeSpan    : Bool := false
  baud1       : Bool := false
  baud0       : Bool := false
  deriving DecidableEq, Repr

/-- Every input level as it stands at the end of a reset. Bit `k` of `tapes` is the tape sensor of station `k`. -/
structure Levels where
  pins        : Pins := {}
  tapes       : BitVec 80 := 0
  airOk       : Bool := false
  guardClosed : Bool := false
  estop       : Bool := false
  deriving DecidableEq, Repr

/-- The fields of DEFINE_CODE as they stand in the 19-byte code record (R202). -/
structure CodeFields where
  number : Nat
  length : Nat
  st0    : Nat
  st1    : Nat
  st2    : Nat
  st3    : Nat
  span   : Nat
  clinch : Nat
  remake : Nat
  kind   : Nat
  m      : Nat
  e      : Int
  tl     : Nat
  th     : Nat
  deriving DecidableEq, Repr

/-- One step record of 10 bytes as received (R202): the kind byte, byte 1, and the four 2-byte fields. -/
structure StepRecord where
  kind  : Nat
  byte1 : Nat
  code  : Nat
  x     : Nat
  y     : Nat
  span  : Nat
  deriving DecidableEq, Repr

/-- The geometry of R124. -/
structure Geometry where
  hx        : Nat
  hy        : Nat
  rcx       : Nat
  rcy       : Nat
  sx        : Int
  sy        : Int
  xmin      : Nat
  xmax      : Nat
  ymin      : Nat
  ymax      : Nat
  lx        : Nat
  ly        : Nat
  window    : Nat
  settle    : Nat
  following : Nat
  deriving DecidableEq, Repr

/-- The seven timeouts, in the order of R175. -/
structure Timeouts where
  chain    : Nat
  gate     : Nat
  head     : Nat
  span     : Nat
  table    : Nat
  conveyor : Nat
  board    : Nat
  deriving DecidableEq, Repr

/-- The commands: host commands, link events and machine events. -/
inductive Instr where
  -- host commands (section 12.6)
  | readChain (tag : Byte)
  | readPocket (tag : Byte) (pocket : Nat)
  | loadStation (tag : Byte) (station count low : Nat)
  | lockStation (tag : Byte) (station : Nat)
  | unlockStation (tag : Byte) (station : Nat)
  | resetStation (tag : Byte) (station : Nat)
  | readStation (tag : Byte) (station : Nat)
  | setStationGroup (tag : Byte) (group enable base mask cls : Nat)
  | defineCode (tag : Byte) (fields : CodeFields)
  | removeCode (tag : Byte) (code : Nat)
  | readCode (tag : Byte) (code : Nat)
  | programBegin (tag : Byte) (product steps images order : Nat) (offsets : List (Nat × Nat))
  | programSteps (tag : Byte) (first : Nat) (records : List StepRecord)
  | programEnd (tag : Byte)
  | programClear (tag : Byte)
  | readProgram (tag : Byte)
  | announceBoard (tag : Byte) (board product mask : Nat)
  | skipStep (tag : Byte) (board image stepIndex : Nat)
  | disposeStep (tag : Byte) (board image stepIndex disposition : Nat)
  | abandonBoard (tag : Byte) (board : Nat)
  | readBoard (tag : Byte) (slot : Nat) (index : Option Nat)
  | setFireDwell (tag : Byte) (dwell : Nat)
  | readAssignment (tag : Byte)
  | setFailThreshold (tag : Byte) (threshold : Nat)
  | readVerifier (tag : Byte)
  | home (tag : Byte) (axes : Nat)
  | setGeometry (tag : Byte) (g : Geometry)
  | readTable (tag : Byte)
  | readHead (tag : Byte)
  | readConveyor (tag : Byte)
  | setDebounce (tag : Byte) (tape air guard : Nat)
  | readInputs (tag : Byte)
  | setTiming (tag : Byte) (t : Timeouts)
  | readWatches (tag : Byte)
  | setAlarmClass (tag : Byte) (slot cls : Nat)
  | ackAlarms (tag : Byte) (sources : Nat)
  | readCapture (tag : Byte)
  | clearCapture (tag : Byte)
  | readAlarms (tag : Byte)
  | run (tag : Byte)
  | hold (tag : Byte)
  | stop (tag : Byte)
  | recover (tag : Byte)
  | getStatus (tag : Byte)
  | reset (tag : Byte)
  | unknownKindCommand (kind tag : Byte) (payload : List Byte)
  -- the link (R196, R198, R200) and the resets (R195)
  | rxCharacter (byte : Byte) (stopBit : Bool)
  | gapTimeout
  | frameSent (baud1 baud0 : Bool)
  | powerOn (levels : Levels)
  | resetPin (levels : Levels)
  -- the chain (chapter 1)
  | indexRequest
  | indexCompletion (seen : Bool)
  | chainJam
  | assignment (pocket : Fin 128)
  | fire (station : Fin 80)
  | fireDwellEnd (station : Fin 80)
  | gateStrokeStart
  | gateStrokeCompletion
  | gateJam
  -- the verifier (chapter 6); the converter counts of the forward and the reverse reading
  | measurementStart
  | measurementCompletion (forward reverse : Nat)
  -- the table and the span axis (chapters 7 and 8)
  | homeSwitchArrival (axis : Axis) (made : Bool)
  | homingParkSettled (axis : Axis)
  | tableTimeout
  | encoderCount (axis : Axis) (positive : Bool) (steps : Int)
  | entryMoveStart
  | loadMoveStart
  | axisProfileComplete (axis : Axis)
  | axisDecelerated (axis : Axis) (rest : Int)
  | tablePositioned
  -- the head (chapter 8)
  | pickStart
  | pickCompletion
  | formCompletion
  | driveStart
  | leadSensorArrival (side : Side)
  | driveCompletion
  | clinchCompletion (cutLeft cutRight : Bool)
  | clinchHomeArrival (made : Bool)
  | headTopArrival (made : Bool)
  | discardStart
  | jawsOpenArrival (made : Bool)
  | headJam
  | spanTimeout
  -- the conveyor (chapter 9)
  | loadStart
  | entrySensorArrival (made : Bool)
  | stopSensorArrival (made : Bool)
  | clampClosedArrival (made : Bool)
  | unloadStart
  | clampOpenArrival (made : Bool)
  | exitRunStart
  | exitSensorArrival (made : Bool)
  | conveyorJam
  | boardLate (wait : BoardWait)
  -- the inputs (chapter 10)
  | rawInputChange (input : SlowInput) (made : Bool)
  | debouncedArrival (input : SlowInput)
  | estopArrival
  | estopRelease
  deriving DecidableEq, Repr

end Sys2Proof
end

