-- ==== Sys2Proof/Machine/State.lean ====
section
/-! DEFINITION. The state of the controller as plain data, block by block as 00_scope section 2 lists them, the values
after reset, and the two closed lists of reasons for a stop. -/

namespace Sys2Proof.Machine

/-! ## CHT, the chain tracker (chapter 1) -/

/-- The index state of R11. -/
inductive IndexState where
  | idle | inFlight | interrupted
  deriving DecidableEq, Repr

/-- The verify results of R2 (chapter 6). -/
inductive VerifyResult where
  | pass | low | high | overRange | polarity
  deriving DecidableEq, Repr

/-- The causes a pocket record holds (R2): `verify` in REJECTED, the others in ORPHAN. -/
inductive PocketCause where
  | verify | skipped | abandoned | stray
  deriving DecidableEq, Repr

/-- The eight pocket states of R2. -/
inductive PocketState where
  | unknown | empty | assigned | fired | loaded | verified | rejected | orphan
  deriving DecidableEq, Repr

/-- An entry reference: board id and list index (R2, R70). -/
structure EntryRef where
  board : Nat
  index : Nat
  deriving DecidableEq, Repr

/-- A pocket record (R2); its number is its place. -/
structure Pocket where
  state   : PocketState := .unknown
  entry   : Option EntryRef := none
  station : Option (Fin 80) := none
  result  : Option VerifyResult := none
  cause   : Option PocketCause := none
  deriving DecidableEq, Repr

/-- The state of CHT: C (R1), the pocket records (R2), the index state and drive (R11), the gate stroke (R17), and whether the
pocket standing at entry has been assigned while it stands there, which R87 lets happen once (no rule names a field for it:
DEDUCED, assumption log 44). -/
structure Chain where
  c          : Fin 128
  pockets    : Vector Pocket 128
  index      : IndexState
  indexDrive : Bool
  gateStroke : Option (Fin 128)
  gateOutput : Bool
  entryTaken : Bool
  deriving DecidableEq, Repr

/-! ## STC, the station controller (chapter 2) -/

/-- The station states of R24. -/
inductive StationState where
  | unloaded | ready | empty | locking | locked | quarantined | fault
  deriving DecidableEq, Repr

/-- A station record (R23); its number is its place. -/
structure Station where
  owner    : Option Nat := none
  state    : StationState := .unloaded
  reel     : Nat := 0
  load     : Nat := 0
  low      : Nat := 0
  lowArmed : Bool := false
  underrun : Bool := false
  failRun  : Nat := 0
  pending  : Nat := 0
  tape     : Bool := false
  deriving DecidableEq, Repr

/-- The fire output of a station and the ms its dwell has still to run (R90, R92). -/
structure FireUnit where
  output : Bool := false
  dwell  : Option Nat := none
  deriving DecidableEq, Repr

/-- The classes of a raise (section 10.4). -/
inductive AlarmClass where
  | none | warn | hold | stop
  deriving DecidableEq, Repr

/-- One of the station groups 0..3 (R37). -/
structure StationGroup where
  enabled : Bool := false
  base    : Nat := 0
  mask    : Nat := 0
  cls     : AlarmClass := .hold
  deriving DecidableEq, Repr

/-- What a verify spec measures (R102). -/
inductive VerifyKind where
  | none | res | cap | diode | link
  deriving DecidableEq, Repr

/-- A verify spec (R102). -/
structure VerifySpec where
  kind : VerifyKind
  m    : Nat
  e    : Int
  tl   : Nat
  th   : Nat
  deriving DecidableEq, Repr

/-- Clinch modes (R40). -/
inductive ClinchMode where
  | inward | outward | none
  deriving DecidableEq, Repr

/-- Drive modes (R49). -/
inductive DriveMode where
  | normal | soft
  deriving DecidableEq, Repr

/-- A code record (R40). -/
structure CodeRecord where
  number   : Nat
  stations : List (Fin 80)
  active   : Nat
  starved  : Bool
  span     : Nat
  clinch   : ClinchMode
  remake   : Nat
  spec     : VerifySpec
  deriving DecidableEq, Repr

/-- The state of STC: the station records, their fire outputs, the fire dwell in force (R93), the code table (R40) in
rising order of code number, and the station groups with the default group's class slot (R37). -/
structure Stations where
  recs         : Vector Station 80
  fires        : Vector FireUnit 80
  dwellLength  : Nat
  codes        : List CodeRecord
  groups       : Vector StationGroup 4
  defaultClass : AlarmClass
  deriving DecidableEq, Repr

/-! ## PGS, the program store (chapter 3) -/

/-- List orders (R46). -/
inductive ListOrder where
  | imageMajor | stepMajor
  deriving DecidableEq, Repr

/-- The program header and the image table (R46). -/
structure Header where
  product : Nat
  steps   : Nat
  images  : Nat
  order   : ListOrder
  offsets : List (Nat × Nat)
  deriving DecidableEq, Repr

/-- A resolved insert record (R53, R54): `none` in an attribute means that the code's default fills it in. -/
structure Resolved where
  step      : Nat
  sect      : Nat
  code      : Nat
  x         : Nat
  y         : Nat
  direction : Nat
  span      : Option Nat
  clinch    : Option ClinchMode
  drive     : DriveMode
  bypass    : Bool
  remake    : Option Nat
  deriving DecidableEq, Repr

/-- The program store with the contents each of its states has (R46). -/
inductive Store where
  | empty
  | receiving (hdr : Header) (steps : List StepRecord)
  | loaded (hdr : Header) (steps : List StepRecord) (inserts : List Resolved) (barriers : Nat)
  deriving DecidableEq, Repr

/-- The failure reasons of PROGRAM_END (R50, R51, R56). -/
inductive ProgramFault where
  | incomplete | undefinedStep | modifierValue | unknownCode | spanRange | danglingModifier | outOfTravel | noInsert
  deriving DecidableEq, Repr

/-- The last outcome (R46, R56). -/
inductive ProgramOutcome where
  | none
  | ok
  | failed (why : ProgramFault) (step : Option Nat) (image : Option Nat)
  deriving DecidableEq, Repr

/-- The state of PGS (R46). -/
structure Programs where
  store   : Store
  outcome : ProgramOutcome
  deriving DecidableEq, Repr

/-! ## BDQ, the board queue (chapter 4) -/

/-- The thirteen entry statuses of R67. -/
inductive EntryStatus where
  | pending | queued | assigned | fired | loaded | verified | inHead | failedOpen
  | inserted | unclinched | failed | missed | skipped
  deriving DecidableEq, Repr

/-- The causes of R66. -/
inductive EntryCause where
  | fenced | limit | abandoned | leadMiss | halted | lost
  deriving DecidableEq, Repr

/-- The verification field of an entry (R66). -/
inductive Verification where
  | bypass
  | check (spec : VerifySpec)
  deriving DecidableEq, Repr

/-- An entry of an insertion list (R66); its list index is its place. -/
structure Entry where
  image        : Nat
  step         : Nat
  sect         : Nat
  code         : Nat
  span         : Nat
  clinch       : ClinchMode
  drive        : DriveMode
  verification : Verification
  remakeLimit  : Nat
  status       : EntryStatus := .pending
  remakes      : Nat := 0
  pocket       : Option (Fin 128) := none
  cause        : Option EntryCause := none
  unclinched   : Bool := false
  hostRemake   : Bool := false
  deriving DecidableEq, Repr

/-- Transport phases (R63, R76). -/
inductive Phase where
  | waiting | loading | clamped | unloading
  deriving DecidableEq, Repr

/-- A board record (R63). -/
structure Board where
  id         : Nat
  product    : Nat
  mask       : Nat
  entries    : List Entry
  fenced     : Bool := false
  phase      : Phase := .waiting
  abandoned  : Bool := false
  completing : Bool := false
  deriving DecidableEq, Repr

/-- The state of BDQ: the two slots (R63) and the return queue, head first (R70). -/
structure Boards where
  active : Option Board
  next   : Option Board
  queue  : List EntryRef
  deriving DecidableEq, Repr

/-! ## ASG, the assignment unit (chapter 5) -/

/-- The starved-wait record: the entry and its code (R84). -/
structure StarvedWait where
  entry : EntryRef
  code  : Nat
  deriving DecidableEq, Repr

/-! ## VFY, the verifier (chapter 6) -/

/-- The measurement in flight (R109), and the ms of its duration still to run. -/
structure Measurement where
  pocket    : Fin 128
  entry     : EntryRef
  station   : Fin 80
  code      : Nat
  kind      : VerifyKind
  mant      : Nat
  expo      : Int
  tl        : Nat
  th        : Nat
  duration  : Nat
  remaining : Nat
  deriving DecidableEq, Repr

/-- What a judgement records: a verify result, or not measured (R109, R111). -/
inductive Judged where
  | measured (result : VerifyResult)
  | notMeasured
  deriving DecidableEq, Repr

/-- The last judgement (R109). -/
structure Judgement where
  pocket  : Fin 128
  entry   : EntryRef
  station : Fin 80
  code    : Nat
  kind    : VerifyKind
  result  : Judged
  reading : Option Nat
  time    : Nat
  deriving DecidableEq, Repr

/-- The seven judgement counts (R109). -/
structure JudgementCounts where
  pass        : Nat := 0
  low         : Nat := 0
  high        : Nat := 0
  overRange   : Nat := 0
  polarity    : Nat := 0
  notMeasured : Nat := 0
  abandoned   : Nat := 0
  deriving DecidableEq, Repr

/-- The state of VFY (R109). The verifier is MEASURING while `flight` is present and IDLE otherwise; `range` is the
exponent of the range the front end is set to (R104, R107), absent while it is idle. -/
structure Verifier where
  flight    : Option Measurement
  contacts  : Bool
  range     : Option Int
  last      : Option Judgement
  threshold : Nat
  counts    : JudgementCounts
  deriving DecidableEq, Repr

/-! ## TPS, the table positioner (chapter 7) -/

/-- The three stages of homing (R122). -/
inductive HomeStage where
  | clear | search | park
  deriving DecidableEq, Repr

/-- The axis states of R119, with the stage of a homing. -/
inductive AxisState where
  | unhomed
  | homing (stage : HomeStage)
  | idle | moving | settling | inPosition
  deriving DecidableEq, Repr

/-- An axis record (R119, R140), the ms for which a parking table axis has stood within its window, and whether an axis in the
park stage still decelerates from its search (R122). -/
structure AxisRec where
  counter   : Int := 0
  commanded : Int := 0
  target    : Option Int := none
  homed     : Bool := false
  drive     : Bool := false
  state     : AxisState := .unhomed
  parked    : Option Nat := none
  slowing   : Bool := false
  deriving DecidableEq, Repr

/-- The purpose of a move (R129). -/
inductive Purpose where
  | entry (ref : EntryRef)
  | load
  deriving DecidableEq, Repr

/-- The state of TPS: the axis records, the table record (R129), with the ms the settle timer has run, and the
geometry in force (R124). -/
structure Table where
  x           : AxisRec
  y           : AxisRec
  r           : AxisRec
  purpose     : Option Purpose
  inFlight    : Bool
  positioned  : Bool
  kept        : Option Purpose
  loadRequest : Bool
  settle      : Option Nat
  followError : Bool
  geometry    : Geometry
  deriving DecidableEq, Repr

/-! ## HDC, the head controller (chapter 8) -/

/-- What the head left when it halted (R138). -/
inductive HaltedFrom where
  | reset | top | pickStroke | pickSpanWait | form | wait | drive | clinch | rise | discard
  deriving DecidableEq, Repr

/-- The head states of R138, with the fields present in one state only: the pick stage as two constructors, the
leads seen in DRIVE, halted from and air lost in HALTED. `rise` is RETURN. -/
inductive HeadState where
  | top | pickStroke | pickSpanWait | form | wait
  | drive (leftSeen rightSeen : Bool)
  | clinch | rise | discard
  | halted (src : HaltedFrom) (airLost : Bool)
  deriving DecidableEq, Repr

/-- The entry held, with the attributes of its entry record (R138). -/
structure HeldEntry where
  ref    : EntryRef
  span   : Nat
  clinch : ClinchMode
  drive  : DriveMode
  deriving DecidableEq, Repr

/-- The directions of a clinch stroke (R138). -/
inductive ClinchDir where
  | inward | outward
  deriving DecidableEq, Repr

/-- The clinch states of R138. STOPPED keeps the direction of the stroke it ended, if it ended one (R152, R153). -/
inductive ClinchState where
  | retracted
  | stroking (dir : ClinchDir)
  | retracting
  | stopped (dir : Option ClinchDir)
  deriving DecidableEq, Repr

/-- The head and clinch outputs of section 8.1. -/
structure HeadOutputs where
  pick     : Bool := false
  jawAir   : Bool := false
  form     : Bool := false
  drive    : Option DriveMode := none
  rise     : Bool := false
  release  : Bool := false
  clinch   : Option ClinchDir := none
  retract  : Bool := false
  deriving DecidableEq, Repr

/-- The counts of R138. -/
structure HeadCounts where
  picks      : Nat := 0
  inserted   : Nat := 0
  unclinched : Nat := 0
  failedOpen : Nat := 0
  discards   : Nat := 0
  deriving DecidableEq, Repr

/-- The state of HDC: the head record (R138), the span axis record with its kept span move (R140), whether a span move
is in flight (R140, R144, R152, R154; DEDUCED, assumption log 18), the outputs. -/
structure Head where
  state      : HeadState
  held       : Option HeldEntry
  unowned    : Bool
  boardWait  : Bool
  clinch     : ClinchState
  counts     : HeadCounts
  span       : AxisRec
  keptSpan   : Option Int
  spanMoving : Bool
  outputs    : HeadOutputs
  deriving DecidableEq, Repr

/-! ## BCV, the board conveyor (chapter 9) -/

/-- The transport states of R156, with the fields present in one state only. -/
inductive TransportState where
  | empty
  | entryWait
  | entryRun (halted stopReached : Bool)
  | clamping
  | clamped
  | unclamping
  | tableWait
  | unloading (halted exitSeen : Bool)
  deriving DecidableEq, Repr

/-- The conveyor, pin and clamp outputs of R157. -/
structure ConveyorOutputs where
  entryRun   : Bool := false
  exitRun    : Bool := false
  pinsUp     : Bool := false
  pinsDown   : Bool := false
  clampClose : Bool := false
  clampOpen  : Bool := false
  deriving DecidableEq, Repr

/-- The state of BCV (R156). -/
structure Conveyor where
  state         : TransportState
  board         : Option Nat
  unloadRequest : Bool
  loads         : Nat
  unloads       : Nat
  outputs       : ConveyorOutputs
  deriving DecidableEq, Repr

/-! ## WCH, the watch and input unit (chapter 10) -/

/-- Debounced states (R166). -/
inductive Debounced where
  | made | opened | unknown
  deriving DecidableEq, Repr

/-- The record of one debounced input (R166): the raw state, the ms since its last change (or since the end of the
reset), and the debounced state. -/
structure SlowRec where
  raw   : Bool := false
  since : Nat := 0
  state : Debounced := .unknown
  deriving DecidableEq, Repr

/-- Watch states (R171). -/
inductive WatchState where
  | idle | running | expired
  deriving DecidableEq, Repr

/-- The names of the six watches that hold one running time (R171). -/
inductive WatchId where
  | chain | gate | head | span | table | conveyor
  deriving DecidableEq, Repr

/-- A watch record, its timeout apart (R171). -/
structure Watch where
  state     : WatchState := .idle
  remaining : Nat := 0
  deriving DecidableEq, Repr

/-- A wait of the BOARD watch that stands: expired or running, its remaining time and its context (R174). -/
structure WaitRec where
  expired   : Bool
  remaining : Nat
  board     : Nat
  index     : Option Nat
  deriving DecidableEq, Repr

/-- The state of WCH: the debounced inputs and their three settings (R166, R167), the emergency-stop input (R170), the
watch records, the two BOARD waits and the timeouts in force (R171, R174, R175). -/
structure Inputs where
  tapes         : Vector SlowRec 80
  airOk         : SlowRec
  guardClosed   : SlowRec
  tapeTime      : Nat
  airTime       : Nat
  guardTime     : Nat
  estop         : Bool
  chain         : Watch
  gate          : Watch
  head          : Watch
  span          : Watch
  table         : Watch
  conveyor      : Watch
  transportWait : Option WaitRec
  headWait      : Option WaitRec
  timeouts      : Timeouts
  deriving DecidableEq, Repr

/-! ## ALC, alarm and line control (chapters 10 and 11) -/

/-- The 21 alarm sources, in the order of their numbers (R177). -/
inductive Source where
  | estop | guardOpen | airLow | chainJam | gateJam | headJam | spanTimeout | tableTimeout | followingError
  | conveyorJam | boardLate | leadMiss | clinchFail | misfeed | stationSuspect | starved | tapeOut | reelLow
  | verifyReject | strayPart | stepMissed
  deriving DecidableEq, Repr

/-- The context of a raise (R179). -/
structure Context where
  station : Option Nat := none
  pocket  : Option Nat := none
  board   : Option Nat := none
  index   : Option Nat := none
  code    : Option Nat := none
  detail  : Nat := 0
  deriving DecidableEq, Repr

/-- A source record (R179). The class raised is absent exactly while it is `none`. -/
structure SourceRec where
  pending   : Bool := false
  cls       : AlarmClass := .none
  count     : Nat := 0
  context   : Context := {}
  condition : Bool := false
  deriving DecidableEq, Repr

/-- The four general class slots (R177). -/
structure Slots where
  guardAir  : AlarmClass
  transport : AlarmClass
  supply    : AlarmClass
  insert    : AlarmClass
  deriving DecidableEq, Repr

/-- The line states of R186. -/
inductive LineState where
  | unready | ready | running | holding | held | stopped | recovering
  deriving DecidableEq, Repr

/-- The content of a valid capture record (R183). -/
structure Captured where
  source  : Source
  cls     : AlarmClass
  line    : LineState
  context : Context
  time    : Nat
  deriving DecidableEq, Repr

/-- The capture record: valid while its content is present, and its overflow count (R183). -/
structure Capture where
  content  : Option Captured
  overflow : Nat
  deriving DecidableEq, Repr

/-- Reset causes (R195). -/
inductive ResetCause where
  | powerOn | resetPin | resetCommand
  deriving DecidableEq, Repr

/-- The recovery parts done (R186). -/
structure RecoveryParts where
  chain : Bool
  head  : Bool
  deriving DecidableEq, Repr

/-- The line record (R186). -/
structure Line where
  state         : LineState
  programLoaded : Bool
  homedX        : Bool
  homedY        : Bool
  homedR        : Bool
  homedSpan     : Bool
  headHalted    : Bool
  recovery      : Option RecoveryParts
  cause         : ResetCause
  deriving DecidableEq, Repr

/-- The state of ALC: the source records, the class slots, the capture record and the line record. -/
structure Alarms where
  sources : Vector SourceRec 21
  slots   : Slots
  capture : Capture
  line    : Line
  deriving DecidableEq, Repr

/-! ## MLK, the message link (chapter 12) -/

/-- A frame: kind, tag and payload (R197); its start mark, length and check follow from them. -/
structure Frame where
  kind    : Byte
  tag     : Byte
  payload : List Byte
  deriving DecidableEq, Repr

/-- The receiver (R198): HUNTING, or IN_FRAME with the bytes gathered after the start mark and the ms since the
last byte. -/
inductive Receiver where
  | hunting
  | inFrame (bytes : List Byte) (since : Nat)
  deriving DecidableEq, Repr

/-- The seven link counters, in the order of R204. -/
structure LinkCounters where
  accepted      : Nat := 0
  checkErrors   : Nat := 0
  lengthErrors  : Nat := 0
  gapTimeouts   : Nat := 0
  foreignKinds  : Nat := 0
  inputOverruns : Nat := 0
  reportsLost   : Nat := 0
  deriving DecidableEq, Repr

/-- The state of MLK: the receiver, the two queues, the counters, the baud rate, and whether a RESET has been
accepted (R195, R196, R198, R200, R204). -/
structure Link where
  receiver      : Receiver
  input         : List Frame
  output        : List Frame
  counters      : LinkCounters
  baud          : Nat
  resetAccepted : Bool
  deriving DecidableEq, Repr

/-! ## The whole machine -/

/-- The state of the controller. `clock` is the time stamp of R194. `pins` holds the input levels last seen. `drawn`
counts the free values taken so far; it and `pending`, the commands that are waiting, are the model's own. -/
structure State where
  clock    : Nat
  pins     : Pins
  chain    : Chain
  stations : Stations
  programs : Programs
  boards   : Boards
  starved  : Option StarvedWait
  verifier : Verifier
  table    : Table
  head     : Head
  conveyor : Conveyor
  inputs   : Inputs
  alarms   : Alarms
  link     : Link
  drawn    : Nat
  pending  : List Instr
  deriving DecidableEq, Repr

/-- The reasons for a fault. The manual gives every step of the block an effect, a refusal reply or no effect, in every
state, so no meaning of this model raises a fault: the list has no constructor. Safe. -/
inductive Fault where
  deriving DecidableEq, Repr

/-- The reasons for a refusal. -/
inductive Refusal where
  /-- Raised by `exec` for a command that has no meaning yet; no arm raises it in this model. Safe. -/
  | notModelled (mnemonic : String)
  deriving DecidableEq, Repr

/-! ## The values after reset -/

/-- The geometry after reset (R124). -/
def Geometry.afterReset : Geometry :=
  { hx := 0, hy := 0, rcx := 0, rcy := 0, sx := 0, sy := 0, xmin := 0, xmax := 240000, ymin := 0, ymax := 200000,
    lx := 0, ly := 0, window := 6, settle := 8, following := 400 }

/-- The timeouts after reset (R175). -/
def Timeouts.afterReset : Timeouts :=
  { chain := 250, gate := 150, head := 400, span := 800, table := 1500, conveyor := 5000, board := 20000 }

/-- CHT after reset (R1, R2, R11, R9). -/
def Chain.afterReset : Chain :=
  { c := 0, pockets := Vector.replicate 128 {}, index := .idle, indexDrive := false, gateStroke := none,
    gateOutput := false, entryTaken := false }

/-- STC after reset (R23, R37, R40, R92, R93). -/
def Stations.afterReset : Stations :=
  { recs := Vector.replicate 80 {}, fires := Vector.replicate 80 {}, dwellLength := 12, codes := [],
    groups := Vector.replicate 4 {}, defaultClass := .hold }

/-- VFY after reset (R109). -/
def Verifier.afterReset : Verifier :=
  { flight := none, contacts := false, range := none, last := none, threshold := 3, counts := {} }

/-- TPS after reset (R119, R124, R129). -/
def Table.afterReset : Table :=
  { x := {}, y := {}, r := {}, purpose := none, inFlight := false, positioned := false, kept := none,
    loadRequest := false, settle := none, followError := false, geometry := Geometry.afterReset }

/-- HDC after reset, from the head-top input as it stands at reset (R138, R140). -/
def Head.afterReset (headTop : Bool) : Head :=
  { state := if headTop then .top else .halted .reset false, held := none, unowned := false, boardWait := false,
    clinch := .retracted, counts := {}, span := {}, keptSpan := none, spanMoving := false, outputs := {} }

/-- BCV after reset (R156). -/
def Conveyor.afterReset : Conveyor :=
  { state := .empty, board := none, unloadRequest := false, loads := 0, unloads := 0, outputs := {} }

/-- WCH after reset: every debounced state UNKNOWN with its timing at the end of the reset, the raw states as the
inputs stand, every watch IDLE, the settings at their defaults (R166, R167, R171, R175). The emergency-stop input is
taken as inactive: if it is active its arrival is the first event after reset (R170). -/
def Inputs.afterReset (lv : Levels) : Inputs :=
  { tapes := Vector.ofFn fun k : Fin 80 => { raw := lv.tapes.getLsbD k.val }
    airOk := { raw := lv.airOk }, guardClosed := { raw := lv.guardClosed }
    tapeTime := 50, airTime := 1000, guardTime := 10, estop := false
    chain := {}, gate := {}, head := {}, span := {}, table := {}, conveyor := {}
    transportWait := none, headWait := none, timeouts := Timeouts.afterReset }

/-- ALC after reset (R177, R179, R183, R186, R195). -/
def Alarms.afterReset (cause : ResetCause) (headTop : Bool) : Alarms :=
  { sources := Vector.replicate 21 {}
    slots := { guardAir := .stop, transport := .hold, supply := .warn, insert := .hold }
    capture := { content := none, overflow := 0 }
    line := { state := .unready, programLoaded := false, homedX := false, homedY := false, homedR := false,
              homedSpan := false, headHalted := !headTop, recovery := none, cause := cause } }

/-- The baud rate the two straps choose (R196). -/
def baudOf (baud1 baud0 : Bool) : Nat :=
  match baud1, baud0 with
  | false, false => 57600
  | false, true => 115200
  | true, false => 230400
  | true, true => 460800

/-- MLK after reset (R196, R204). -/
def Link.afterReset (baud1 baud0 : Bool) : Link :=
  { receiver := .hunting, input := [], output := [], counters := {}, baud := baudOf baud1 baud0,
    resetAccepted := false }

/-- Every block at its values after a reset of the given cause that ends with the inputs at the given levels.
The commands that are waiting and the count of free values are the model's own and are handed in. -/
def State.afterReset (cause : ResetCause) (lv : Levels) (drawn : Nat) (pending : List Instr) : State :=
  { clock := 0
    pins := lv.pins
    chain := Chain.afterReset
    stations := Stations.afterReset
    programs := { store := .empty, outcome := .none }
    boards := { active := none, next := none, queue := [] }
    starved := none
    verifier := Verifier.afterReset
    table := Table.afterReset
    head := Head.afterReset lv.pins.headTop
    conveyor := Conveyor.afterReset
    inputs := Inputs.afterReset lv
    alarms := Alarms.afterReset cause lv.pins.headTop
    link := Link.afterReset lv.pins.baud1 lv.pins.baud0
    drawn := drawn
    pending := pending }

/-- The machine right after reset. DESIGN CHOICE (assumption log 1): the cause is POWER_ON and every input stands
open, low or inactive, since the manual leaves both to the world; the free-value count is 0 and no command waits. -/
def State.reset : State := State.afterReset .powerOn {} 0 []

end Sys2Proof.Machine
end

