-- ==== Sys2Proof/Machine/Operands.lean ====
section
/-! DEFINITION. The encoding of values on the link (R201, R202): the numbers of the enumerated values, the bytes of
numbers, optional items, lists and sets, and the check of a frame (R197). -/

namespace Sys2Proof.Machine

/-! ## Numbers, little-endian (R197, R201) -/

def u8 (n : Nat) : List Byte := [BitVec.ofNat 8 n]

def u16 (n : Nat) : List Byte := [BitVec.ofNat 8 n, BitVec.ofNat 8 (n / 256)]

def u32 (n : Nat) : List Byte :=
  [BitVec.ofNat 8 n, BitVec.ofNat 8 (n / 256), BitVec.ofNat 8 (n / 65536), BitVec.ofNat 8 (n / 16777216)]

/-- The number of `w` bits whose two's complement is `n` (R197). -/
def twos (w : Nat) (n : Int) : Nat := (BitVec.ofInt w n).toNat

def i8 (n : Int) : List Byte := u8 (twos 8 n)

def i16 (n : Int) : List Byte := u16 (twos 16 n)

def i32 (n : Int) : List Byte := u32 (twos 32 n)

/-- Yes or no (R201). -/
def yn (b : Bool) : List Byte := [if b then 1#8 else 0#8]

/-- An optional item: a presence byte, then the item when present (R201). -/
def opt {α : Type} (f : α → List Byte) : Option α → List Byte
  | none => [0#8]
  | some a => 1#8 :: f a

/-- A variable list: a count byte, then the elements (R201). -/
def counted {α : Type} (f : α → List Byte) (l : List α) : List Byte := u8 l.length ++ l.flatMap f

/-- The number of a byte list of one, two or four bytes, little-endian (R197). -/
def readNum : List Byte → Nat
  | [] => 0
  | b :: l => b.toNat + 256 * readNum l

/-- The signed value of a number of `w` bits (R197). -/
def readSigned (w n : Nat) : Int := (BitVec.ofNat w n).toInt

/-! ## Enumerated values, numbered from 0 in written order (R201) -/

def IndexState.num : IndexState → Nat
  | .idle => 0 | .inFlight => 1 | .interrupted => 2

def VerifyResult.num : VerifyResult → Nat
  | .pass => 0 | .low => 1 | .high => 2 | .overRange => 3 | .polarity => 4

def PocketCause.num : PocketCause → Nat
  | .verify => 0 | .skipped => 1 | .abandoned => 2 | .stray => 3

def PocketState.num : PocketState → Nat
  | .unknown => 0 | .empty => 1 | .assigned => 2 | .fired => 3 | .loaded => 4 | .verified => 5 | .rejected => 6
  | .orphan => 7

def StationState.num : StationState → Nat
  | .unloaded => 0 | .ready => 1 | .empty => 2 | .locking => 3 | .locked => 4 | .quarantined => 5 | .fault => 6

def AlarmClass.num : AlarmClass → Nat
  | .none => 0 | .warn => 1 | .hold => 2 | .stop => 3

/-- The class a class byte names, if any (R38, R178). -/
def AlarmClass.ofNum : Nat → Option AlarmClass
  | 0 => some .none | 1 => some .warn | 2 => some .hold | 3 => some .stop | _ => Option.none

def VerifyKind.num : VerifyKind → Nat
  | .none => 0 | .res => 1 | .cap => 2 | .diode => 3 | .link => 4

def VerifyKind.ofNum : Nat → Option VerifyKind
  | 0 => some .none | 1 => some .res | 2 => some .cap | 3 => some .diode | 4 => some .link | _ => Option.none

def ClinchMode.num : ClinchMode → Nat
  | .inward => 0 | .outward => 1 | .none => 2

def ClinchMode.ofNum : Nat → Option ClinchMode
  | 0 => some .inward | 1 => some .outward | 2 => some .none | _ => Option.none

def DriveMode.num : DriveMode → Nat
  | .normal => 0 | .soft => 1

def ListOrder.num : ListOrder → Nat
  | .imageMajor => 0 | .stepMajor => 1

def ListOrder.ofNum : Nat → Option ListOrder
  | 0 => some .imageMajor | 1 => some .stepMajor | _ => none

/-- The store states EMPTY, RECEIVING, LOADED (R46). -/
def Store.num : Store → Nat
  | .empty => 0 | .receiving .. => 1 | .loaded .. => 2

/-- The PROGRAM_INVALID reasons (R199). -/
def ProgramFault.num : ProgramFault → Nat
  | .incomplete => 1 | .undefinedStep => 2 | .modifierValue => 3 | .unknownCode => 4 | .spanRange => 5
  | .danglingModifier => 6 | .outOfTravel => 7 | .noInsert => 8

def EntryStatus.num : EntryStatus → Nat
  | .pending => 0 | .queued => 1 | .assigned => 2 | .fired => 3 | .loaded => 4 | .verified => 5 | .inHead => 6
  | .failedOpen => 7 | .inserted => 8 | .unclinched => 9 | .failed => 10 | .missed => 11 | .skipped => 12

/-- The causes of R66, in its written order. -/
def EntryCause.num : EntryCause → Nat
  | .fenced => 0 | .limit => 1 | .abandoned => 2 | .leadMiss => 3 | .halted => 4 | .lost => 5

def Phase.num : Phase → Nat
  | .waiting => 0 | .loading => 1 | .clamped => 2 | .unloading => 3

/-- The axis states of R119. -/
def AxisState.num : AxisState → Nat
  | .unhomed => 0 | .homing _ => 1 | .idle => 2 | .moving => 3 | .settling => 4 | .inPosition => 5

/-- The axes in the order X, Y, R, SPAN (R121, R201). -/
def axisNum (a : Axis) : Nat :=
  match a with
  | .x => 0 | .y => 1 | .r => 2 | .span => 3

def LineState.num : LineState → Nat
  | .unready => 0 | .ready => 1 | .running => 2 | .holding => 3 | .held => 4 | .stopped => 5 | .recovering => 6

def ResetCause.num : ResetCause → Nat
  | .powerOn => 0 | .resetPin => 1 | .resetCommand => 2

def WatchState.num : WatchState → Nat
  | .idle => 0 | .running => 1 | .expired => 2

/-- The watches in the order of R171; BOARD is 6. -/
def WatchId.num : WatchId → Nat
  | .chain => 0 | .gate => 1 | .head => 2 | .span => 3 | .table => 4 | .conveyor => 5

def Debounced.num : Debounced → Nat
  | .made => 0 | .opened => 1 | .unknown => 2

/-- The place of a source among the 21; its number is one more (R177). -/
def Source.idx : Source → Fin 21
  | .estop => 0 | .guardOpen => 1 | .airLow => 2 | .chainJam => 3 | .gateJam => 4 | .headJam => 5 | .spanTimeout => 6
  | .tableTimeout => 7 | .followingError => 8 | .conveyorJam => 9 | .boardLate => 10 | .leadMiss => 11
  | .clinchFail => 12 | .misfeed => 13 | .stationSuspect => 14 | .starved => 15 | .tapeOut => 16 | .reelLow => 17
  | .verifyReject => 18 | .strayPart => 19 | .stepMissed => 20

/-- The source number of R177. -/
def Source.num (s : Source) : Nat := s.idx.val + 1

/-- The 21 sources in the order of their numbers (R177). -/
def allSources : List Source :=
  [.estop, .guardOpen, .airLow, .chainJam, .gateJam, .headJam, .spanTimeout, .tableTimeout, .followingError,
   .conveyorJam, .boardLate, .leadMiss, .clinchFail, .misfeed, .stationSuspect, .starved, .tapeOut, .reelLow,
   .verifyReject, .strayPart, .stepMissed]

/-- The 4-byte set of alarm sources: bit n − 1 for source n (R201). -/
def sourceSet (p : Source → Bool) : Nat :=
  (allSources.map fun s => if p s then 2 ^ s.idx.val else 0).sum

/-- A set of one byte: bit i for the i-th member (R201). -/
def bits4 (b0 b1 b2 b3 : Bool) : Nat := b0.toNat + 2 * b1.toNat + 4 * b2.toNat + 8 * b3.toNat

/-! ## Composite items -/

/-- The compact form of an alarm context (R201). -/
def Context.bytes (c : Context) : List Byte :=
  u8 (bits4 c.station.isSome c.pocket.isSome c.board.isSome c.index.isSome + 16 * c.code.isSome.toNat)
    ++ c.station.elim [] u8 ++ c.pocket.elim [] u8 ++ c.board.elim [] u32 ++ c.index.elim [] u16
    ++ c.code.elim [] u16 ++ u32 c.detail

def EntryRef.bytes (r : EntryRef) : List Byte := u32 r.board ++ u16 r.index

def VerifySpec.bytes (v : VerifySpec) : List Byte :=
  u8 v.kind.num ++ u16 v.m ++ i8 v.e ++ u16 v.tl ++ u16 v.th

/-- A purpose: ENTRY 0 with its entry, LOAD 1 (R129). -/
def Purpose.bytes : Purpose → List Byte
  | .entry ref => u8 0 ++ ref.bytes
  | .load => u8 1

/-- An axis record in the order of READ_TABLE (R137). -/
def AxisRec.bytes (a : AxisRec) : List Byte :=
  u8 a.state.num ++ i32 a.counter ++ i32 a.commanded ++ opt i32 a.target ++ yn a.homed ++ yn a.drive

/-- An axis record in the order of its fields (R119), in which READ_HEAD carries that of the span axis (R140, R155, R201). -/
def AxisRec.recordBytes (a : AxisRec) : List Byte :=
  i32 a.counter ++ i32 a.commanded ++ opt i32 a.target ++ yn a.homed ++ yn a.drive ++ u8 a.state.num

/-- The geometry in the order of R124: the 44 bytes of SET_GEOMETRY (section 12.6). -/
def geometryBytes (g : Geometry) : List Byte :=
  u32 g.hx ++ u32 g.hy ++ u16 g.rcx ++ u16 g.rcy ++ i16 g.sx ++ i16 g.sy ++ u32 g.xmin ++ u32 g.xmax ++ u32 g.ymin
    ++ u32 g.ymax ++ u32 g.lx ++ u32 g.ly ++ u8 g.window ++ u8 g.settle ++ u16 g.following

/-- The seven timeouts in the order of R175. -/
def timeoutBytes (t : Timeouts) : List Byte :=
  u16 t.chain ++ u16 t.gate ++ u16 t.head ++ u16 t.span ++ u16 t.table ++ u16 t.conveyor ++ u16 t.board

/-- A step record (R202). -/
def stepBytes (r : StepRecord) : List Byte :=
  u8 r.kind ++ u8 r.byte1 ++ u16 r.code ++ u16 r.x ++ u16 r.y ++ u16 r.span

/-- The step record of 10 bytes (R202). -/
def readStep : List Byte → StepRecord
  | [k, b, c0, c1, x0, x1, y0, y1, s0, s1] =>
    { kind := k.toNat, byte1 := b.toNat, code := readNum [c0, c1], x := readNum [x0, x1], y := readNum [y0, y1],
      span := readNum [s0, s1] }
  | _ => { kind := 0, byte1 := 0, code := 0, x := 0, y := 0, span := 0 }

/-- The fields of a code definition as the 19-byte code record (R202). -/
def codeFieldBytes (f : CodeFields) : List Byte :=
  u16 f.number ++ u8 f.length ++ u8 f.st0 ++ u8 f.st1 ++ u8 f.st2 ++ u8 f.st3 ++ u16 f.span ++ u8 f.clinch
    ++ u8 f.remake ++ u8 f.kind ++ u16 f.m ++ i8 f.e ++ u16 f.tl ++ u16 f.th

/-- PROGRAM_INVALID and the last outcome (R56, R61, R199): reason, step index and image, each optional. -/
def outcomeBytes : ProgramOutcome → List Byte
  | .none => u8 0 ++ [0#8] ++ [0#8]
  | .ok => u8 9 ++ [0#8] ++ [0#8]
  | .failed why step image => u8 why.num ++ opt u16 step ++ opt u8 image

/-! ## The check of a frame (R197) -/

/-- One bit of the CRC-16: generator 1021h, most significant bit first. -/
def crcBit (c : BitVec 16) : BitVec 16 := if c.msb then (c <<< 1) ^^^ 0x1021#16 else c <<< 1

/-- One byte of the CRC-16. -/
def crcByte (c : BitVec 16) (b : Byte) : BitVec 16 :=
  crcBit (crcBit (crcBit (crcBit (crcBit (crcBit (crcBit (crcBit (c ^^^ (b.zeroExtend 16 <<< 8)))))))))

/-- The CRC-16 over a run of bytes, from FFFFh, not reflected and not inverted. -/
def crc (l : List Byte) : BitVec 16 := l.foldl crcByte 0xFFFF#16

/-- The body length, kind, tag and payload: bytes 1..L+1 of a frame (R197). -/
def Frame.body (f : Frame) : List Byte := u8 (f.payload.length + 2) ++ [f.kind, f.tag] ++ f.payload

/-- All bytes of a frame: start mark, length, body and check, low byte first (R197). -/
def Frame.bytes (f : Frame) : List Byte := 0x7E#8 :: (f.body ++ u16 (crc f.body).toNat)

end Sys2Proof.Machine
end

