-- ==== Sys2Proof/Decode.lean ====
section
/-! DEFINITION. The command frames of the host (R197, R199, R201, R202, section 12.6): from a frame to its command, total
on any bytes, then from a command to its frame; and `decodeTableWord`, over the rows of the table that give bits. -/

namespace Sys2Proof.Machine

/-! ## From a frame to a command -/

/-- What MLK reads from a well-formed frame (R199): a kind that is not in the catalogue, a payload length that the
catalogue does not permit, or a command. -/
inductive FrameReading where
  | unknownKind
  | badLength
  | command (i : Instr)
  deriving DecidableEq, Repr

/-- The number in `n` bytes of a payload from byte `i` on (R197). -/
def field (p : List Byte) (i n : Nat) : Nat := readNum ((p.drop i).take n)

/-- The offsets of the image table, 4 bytes each, where the payload is a whole number of them (R46, R47). -/
def readOffsets : List Byte → Option (List (Nat × Nat))
  | [] => some []
  | a :: b :: c :: d :: l => (readOffsets l).map fun o => (readNum [a, b], readNum [c, d]) :: o
  | _ => none

/-- The step records, 10 bytes each, where the payload is a whole number of them (R48, R202). -/
def readSteps : List Byte → Option (List StepRecord)
  | [] => some []
  | k :: b :: c0 :: c1 :: x0 :: x1 :: y0 :: y1 :: s0 :: s1 :: l =>
    (readSteps l).map fun r => readStep [k, b, c0, c1, x0, x1, y0, y1, s0, s1] :: r
  | _ => none

/-- The fields of the 19-byte code record (R202). -/
def readCodeFields (p : List Byte) : CodeFields :=
  { number := field p 0 2, length := field p 2 1, st0 := field p 3 1, st1 := field p 4 1, st2 := field p 5 1
    st3 := field p 6 1, span := field p 7 2, clinch := field p 9 1, remake := field p 10 1, kind := field p 11 1
    m := field p 12 2, e := readSigned 8 (field p 14 1), tl := field p 15 2, th := field p 17 2 }

/-- The geometry in the order of R124. -/
def readGeometry (p : List Byte) : Geometry :=
  { hx := field p 0 4, hy := field p 4 4, rcx := field p 8 2, rcy := field p 10 2
    sx := readSigned 16 (field p 12 2), sy := readSigned 16 (field p 14 2)
    xmin := field p 16 4, xmax := field p 20 4, ymin := field p 24 4, ymax := field p 28 4
    lx := field p 32 4, ly := field p 36 4, window := field p 40 1, settle := field p 41 1, following := field p 42 2 }

/-- The seven timeouts in the order of R175. -/
def readTimeouts (p : List Byte) : Timeouts :=
  { chain := field p 0 2, gate := field p 2 2, head := field p 4 2, span := field p 6 2, table := field p 8 2
    conveyor := field p 10 2, board := field p 12 2 }

/-- A command whose payload must have the length given (R199). -/
def sized (n : Nat) (p : List Byte) (i : Instr) : FrameReading := if p.length = n then .command i else .badLength

/-- A command whose owner judges the length (R47, R48, R199): the payload must lie in the catalogue's range and end
with a whole number of elements. -/
def ranged {α : Type} (lo hi : Nat) (p : List Byte) (l : Option α) (f : α → Instr) : FrameReading :=
  if within lo hi p.length then
    match l with
    | some a => .command (f a)
    | none => .badLength
  else .badLength

/-- The commands of kinds 01h to 16h (section 12.6). -/
def readLow (kind : Nat) (t : Byte) (p : List Byte) : FrameReading :=
  match kind with
  | 0x01 => sized 0 p (.readChain t)
  | 0x02 => sized 1 p (.readPocket t (field p 0 1))
  | 0x03 => sized 5 p (.loadStation t (field p 0 1) (field p 1 2) (field p 3 2))
  | 0x04 => sized 1 p (.lockStation t (field p 0 1))
  | 0x05 => sized 1 p (.unlockStation t (field p 0 1))
  | 0x06 => sized 1 p (.resetStation t (field p 0 1))
  | 0x07 => sized 1 p (.readStation t (field p 0 1))
  | 0x08 => sized 5 p (.setStationGroup t (field p 0 1) (field p 1 1) (field p 2 1) (field p 3 1) (field p 4 1))
  | 0x09 => sized 19 p (.defineCode t (readCodeFields p))
  | 0x0A => sized 2 p (.removeCode t (field p 0 2))
  | 0x0B => sized 2 p (.readCode t (field p 0 2))
  | 0x0C => ranged 8 72 p (readOffsets (p.drop 8)) fun o =>
      .programBegin t (field p 0 4) (field p 4 2) (field p 6 1) (field p 7 1) o
  | 0x0D => ranged 2 242 p (readSteps (p.drop 2)) fun r => .programSteps t (field p 0 2) r
  | 0x0E => sized 0 p (.programEnd t)
  | 0x0F => sized 0 p (.programClear t)
  | 0x10 => sized 0 p (.readProgram t)
  | 0x11 => sized 10 p (.announceBoard t (field p 0 4) (field p 4 4) (field p 8 2))
  | 0x12 => sized 7 p (.skipStep t (field p 0 4) (field p 4 1) (field p 5 2))
  | 0x13 => sized 8 p (.disposeStep t (field p 0 4) (field p 4 1) (field p 5 2) (field p 7 1))
  | 0x14 => sized 4 p (.abandonBoard t (field p 0 4))
  | 0x15 =>
    if p.length = 3 then .command (.readBoard t (field p 0 1) (some (field p 1 2)))
    else sized 1 p (.readBoard t (field p 0 1) none)
  | 0x16 => sized 1 p (.setFireDwell t (field p 0 1))
  | _ => .unknownKind

/-- The commands of kinds 17h to 2Dh (section 12.6). -/
def readHigh (kind : Nat) (t : Byte) (p : List Byte) : FrameReading :=
  match kind with
  | 0x17 => sized 0 p (.readAssignment t)
  | 0x18 => sized 1 p (.setFailThreshold t (field p 0 1))
  | 0x19 => sized 0 p (.readVerifier t)
  | 0x1A => sized 1 p (.home t (field p 0 1))
  | 0x1B => sized 44 p (.setGeometry t (readGeometry p))
  | 0x1C => sized 0 p (.readTable t)
  | 0x1D => sized 0 p (.readHead t)
  | 0x1E => sized 0 p (.readConveyor t)
  | 0x1F => sized 6 p (.setDebounce t (field p 0 2) (field p 2 2) (field p 4 2))
  | 0x20 => sized 0 p (.readInputs t)
  | 0x21 => sized 14 p (.setTiming t (readTimeouts p))
  | 0x22 => sized 0 p (.readWatches t)
  | 0x23 => sized 2 p (.setAlarmClass t (field p 0 1) (field p 1 1))
  | 0x24 => sized 4 p (.ackAlarms t (field p 0 4))
  | 0x25 => sized 0 p (.readCapture t)
  | 0x26 => sized 0 p (.clearCapture t)
  | 0x27 => sized 0 p (.readAlarms t)
  | 0x28 => sized 0 p (.run t)
  | 0x29 => sized 0 p (.hold t)
  | 0x2A => sized 0 p (.stop t)
  | 0x2B => sized 0 p (.recover t)
  | 0x2C => sized 0 p (.getStatus t)
  | 0x2D => sized 0 p (.reset t)
  | _ => .unknownKind

/-- The command of a well-formed frame (R199, section 12.6). -/
def readFrame (f : Frame) : FrameReading :=
  if f.kind.toNat ≤ 0x16 then readLow f.kind.toNat f.tag f.payload else readHigh f.kind.toNat f.tag f.payload

/-! ## From a command to its frame -/

def offsetBytes (o : Nat × Nat) : List Byte := u16 o.1 ++ u16 o.2

/-- The frame the host sends for a command (section 12.6); a link or machine event has none. -/
def frameOf (i : Instr) : Option Frame :=
  let f (kind : Byte) (tag : Byte) (payload : List Byte) : Option Frame :=
    some { kind := kind, tag := tag, payload := payload }
  match i with
  | .readChain t => f 0x01#8 t []
  | .readPocket t p => f 0x02#8 t (u8 p)
  | .loadStation t k c l => f 0x03#8 t (u8 k ++ u16 c ++ u16 l)
  | .lockStation t k => f 0x04#8 t (u8 k)
  | .unlockStation t k => f 0x05#8 t (u8 k)
  | .resetStation t k => f 0x06#8 t (u8 k)
  | .readStation t k => f 0x07#8 t (u8 k)
  | .setStationGroup t g e b m c => f 0x08#8 t (u8 g ++ u8 e ++ u8 b ++ u8 m ++ u8 c)
  | .defineCode t c => f 0x09#8 t (codeFieldBytes c)
  | .removeCode t c => f 0x0A#8 t (u16 c)
  | .readCode t c => f 0x0B#8 t (u16 c)
  | .programBegin t p n m o l => f 0x0C#8 t (u32 p ++ u16 n ++ u8 m ++ u8 o ++ l.flatMap offsetBytes)
  | .programSteps t n l => f 0x0D#8 t (u16 n ++ l.flatMap stepBytes)
  | .programEnd t => f 0x0E#8 t []
  | .programClear t => f 0x0F#8 t []
  | .readProgram t => f 0x10#8 t []
  | .announceBoard t b p m => f 0x11#8 t (u32 b ++ u32 p ++ u16 m)
  | .skipStep t b i s => f 0x12#8 t (u32 b ++ u8 i ++ u16 s)
  | .disposeStep t b i s d => f 0x13#8 t (u32 b ++ u8 i ++ u16 s ++ u8 d)
  | .abandonBoard t b => f 0x14#8 t (u32 b)
  | .readBoard t s i => f 0x15#8 t (u8 s ++ i.elim [] u16)
  | .setFireDwell t d => f 0x16#8 t (u8 d)
  | .readAssignment t => f 0x17#8 t []
  | .setFailThreshold t n => f 0x18#8 t (u8 n)
  | .readVerifier t => f 0x19#8 t []
  | .home t a => f 0x1A#8 t (u8 a)
  | .setGeometry t g => f 0x1B#8 t (geometryBytes g)
  | .readTable t => f 0x1C#8 t []
  | .readHead t => f 0x1D#8 t []
  | .readConveyor t => f 0x1E#8 t []
  | .setDebounce t a b c => f 0x1F#8 t (u16 a ++ u16 b ++ u16 c)
  | .readInputs t => f 0x20#8 t []
  | .setTiming t v => f 0x21#8 t (timeoutBytes v)
  | .readWatches t => f 0x22#8 t []
  | .setAlarmClass t s c => f 0x23#8 t (u8 s ++ u8 c)
  | .ackAlarms t n => f 0x24#8 t (u32 n)
  | .readCapture t => f 0x25#8 t []
  | .clearCapture t => f 0x26#8 t []
  | .readAlarms t => f 0x27#8 t []
  | .run t => f 0x28#8 t []
  | .hold t => f 0x29#8 t []
  | .stop t => f 0x2A#8 t []
  | .recover t => f 0x2B#8 t []
  | .getStatus t => f 0x2C#8 t []
  | .reset t => f 0x2D#8 t []
  | .unknownKindCommand k t p => f k t p
  | .rxCharacter .. | .gapTimeout | .frameSent .. | .powerOn _ | .resetPin _ | .indexRequest | .indexCompletion _
  | .chainJam | .assignment _ | .fire _ | .fireDwellEnd _ | .gateStrokeStart | .gateStrokeCompletion | .gateJam
  | .measurementStart | .measurementCompletion .. | .homeSwitchArrival .. | .homingParkSettled _ | .tableTimeout
  | .encoderCount .. | .entryMoveStart | .loadMoveStart | .axisProfileComplete _ | .axisDecelerated ..
  | .tablePositioned | .pickStart | .pickCompletion | .formCompletion | .driveStart | .leadSensorArrival _
  | .driveCompletion | .clinchCompletion .. | .clinchHomeArrival _ | .headTopArrival _ | .discardStart
  | .jawsOpenArrival _ | .headJam | .spanTimeout | .loadStart | .entrySensorArrival _ | .stopSensorArrival _
  | .clampClosedArrival _ | .unloadStart | .clampOpenArrival _ | .exitRunStart | .exitSensorArrival _ | .conveyorJam
  | .boardLate _ | .rawInputChange .. | .debouncedArrival _ | .estopArrival | .estopRelease => none

/-! ## The bytes of a frame -/

/-- The frame in the bytes gathered after a start mark, where the check agrees (R197, R198): L, kind, tag, payload, and
the two check bytes. -/
def frameOfBytes (bytes : List Byte) : Option Frame :=
  match bytes with
  | len :: kind :: tag :: rest =>
    let payload := rest.take (len.toNat - 2)
    let f : Frame := { kind := kind, tag := tag, payload := payload }
    if crc (bytes.take (len.toNat + 1)) = BitVec.ofNat 16 (readNum (bytes.drop (len.toNat + 1))) then some f else none
  | _ => none

end Sys2Proof.Machine

namespace Sys2Proof

/-- The command a word spells by the bits of the opcode table: no row of the table gives bits (the commands come as
frames of bytes, or as events at the wiring), so no word spells one. -/
def decodeTableWord (_nbits _w : Nat) : Option Instr := none

end Sys2Proof
end

