-- ==== Sys2Proof/Machine/Ops.lean ====
section
/-! DEFINITION. The named operations over the state that the families share: the records of the tables, the output
queue, the watches, the line state with the entry into STOPPED, raises, the notices to BDQ, and free values. -/

namespace Sys2Proof.Machine

/-! ## Tables with a fixed number of records -/

/-- The record at a place of a table. -/
def vget {α : Type} {n : Nat} (v : Vector α n) (i : Fin n) : α := v[i.val]

/-- The table with the record at one place replaced. -/
def vset {α : Type} {n : Nat} (v : Vector α n) (i : Fin n) (a : α) : Vector α n := v.set i.val a

/-- The table with every record changed. -/
def vmap {α : Type} {n : Nat} (f : α → α) (v : Vector α n) : Vector α n := Vector.ofFn fun i => f (vget v i)

/-- The record of a pocket (R2). -/
def State.pocket (s : State) (p : Fin 128) : Pocket := vget s.chain.pockets p

def State.setPocket (s : State) (p : Fin 128) (k : Pocket) : State :=
  { s with chain := { s.chain with pockets := vset s.chain.pockets p k } }

/-- The path position of a pocket: (p + C) mod 128 (R1). -/
def State.positionOf (s : State) (p : Fin 128) : Fin 128 := p + s.chain.c

/-- The pocket standing at a position: pocket (q − C) mod 128 (R1). -/
def State.pocketAt (s : State) (q : Fin 128) : Fin 128 := q - s.chain.c

/-- The pocket record of an EMPTY pocket: every optional field absent (R2). -/
def Pocket.emptied : Pocket := { state := .empty }

/-- A pocket made ORPHAN: entry and station absent, the last verify result kept (R2, R8). -/
def Pocket.orphaned (k : Pocket) (cause : PocketCause) : Pocket :=
  { state := .orphan, result := k.result, cause := some cause }

/-- The record of a station (R23). -/
def State.station (s : State) (k : Fin 80) : Station := vget s.stations.recs k

def State.setStation (s : State) (k : Fin 80) (r : Station) : State :=
  { s with stations := { s.stations with recs := vset s.stations.recs k r } }

/-- The fire output and the dwell of a station (R90, R92). -/
def State.fireUnit (s : State) (k : Fin 80) : FireUnit := vget s.stations.fires k

def State.setFireUnit (s : State) (k : Fin 80) (f : FireUnit) : State :=
  { s with stations := { s.stations with fires := vset s.stations.fires k f } }

/-- Station k stands over path position k + 1 (R23). -/
def stationPosition (k : Fin 80) : Fin 128 := ⟨k.val + 1, by omega⟩

/-- The record of a code, if the code is defined (R40). -/
def State.code? (s : State) (n : Nat) : Option CodeRecord := s.stations.codes.find? fun c => c.number == n

/-- The record of an alarm source (R179). -/
def State.source (s : State) (src : Source) : SourceRec := vget s.alarms.sources src.idx

def State.setSource (s : State) (src : Source) (r : SourceRec) : State :=
  { s with alarms := { s.alarms with sources := vset s.alarms.sources src.idx r } }

/-! ## The axis records (R119, R140) -/

def State.axis (s : State) : Axis → AxisRec
  | .x => s.table.x | .y => s.table.y | .r => s.table.r | .span => s.head.span

def State.setAxis (s : State) (a : Axis) (v : AxisRec) : State :=
  match a with
  | .x => { s with table := { s.table with x := v } }
  | .y => { s with table := { s.table with y := v } }
  | .r => { s with table := { s.table with r := v } }
  | .span => { s with head := { s.head with span := v } }

/-- The home switch input of an axis (section 7.1). -/
def homeSwitch (p : Pins) : Axis → Bool
  | .x => p.homeX | .y => p.homeY | .r => p.homeR | .span => p.homeSpan

def setHomeSwitch (p : Pins) (a : Axis) (made : Bool) : Pins :=
  match a with
  | .x => { p with homeX := made } | .y => { p with homeY := made } | .r => { p with homeR := made }
  | .span => { p with homeSpan := made }

/-- A signed 32-bit position (R119): the exact value where 32 bits hold it, and an unstated one elsewhere
(DESIGN CHOICE, assumption log 9). -/
def position32 (n : Int) : Int :=
  if -2147483648 ≤ n ∧ n ≤ 2147483647 then n else (Config.positionOverflow n).bmod 4294967296

/-! ## Free values -/

/-- A detail number the spec does not state (DESIGN CHOICE, assumption log 7). -/
def State.freeDetail (s : State) : Nat := Config.unstatedDetail s.drawn % 4294967296

/-- Which of `n` orders that the spec leaves open is taken (DESIGN CHOICE, assumption log 8). -/
def State.freeOrder (s : State) (n : Nat) : Nat := Config.openOrder s.drawn % n

/-- A free value has been taken: the next one is another. -/
def State.draw (s : State) : State := { s with drawn := s.drawn + 1 }

/-! ## The output queue (R200) -/

/-- A report is offered: queued at the tail while 0..14 frames are queued, and lost otherwise (R200). -/
def State.emit (s : State) (kind : Byte) (payload : List Byte) : State :=
  if s.link.output.length ≤ 14 then
    { s with link := { s.link with output := s.link.output ++ [{ kind := kind, tag := 0, payload := payload }] } }
  else
    { s with link := { s.link with counters :=
        { s.link.counters with reportsLost := wrapInc s.link.counters.reportsLost } } }

/-- A reply is queued at the tail; a command is taken only while a place is free (R199, R200). -/
def State.reply (s : State) (kind tag : Byte) (payload : List Byte) : State :=
  { s with link := { s.link with output := s.link.output ++
      [{ kind := kind + 0x80#8, tag := tag, payload := payload }] } }

/-! ## The watches (R171, R172) -/

def Inputs.watch (i : Inputs) : WatchId → Watch
  | .chain => i.chain | .gate => i.gate | .head => i.head | .span => i.span | .table => i.table
  | .conveyor => i.conveyor

def Inputs.setWatch (i : Inputs) (w : WatchId) (v : Watch) : Inputs :=
  match w with
  | .chain => { i with chain := v } | .gate => { i with gate := v } | .head => { i with head := v }
  | .span => { i with span := v } | .table => { i with table := v } | .conveyor => { i with conveyor := v }

/-- The timeout in force of a watch (R175). -/
def timeoutOf (t : Timeouts) : WatchId → Nat
  | .chain => t.chain | .gate => t.gate | .head => t.head | .span => t.span | .table => t.table
  | .conveyor => t.conveyor

def State.watch (s : State) (w : WatchId) : Watch := s.inputs.watch w

def State.setWatch (s : State) (w : WatchId) (v : Watch) : State :=
  { s with inputs := s.inputs.setWatch w v }

/-- The WATCH_CLEARED report: the watch, the time stamp, and for BOARD the wait that ended (R172). -/
def State.reportCleared (s : State) (watch : Nat) (wait : Option BoardWait) : State :=
  s.emit 0x42#8 (u8 watch ++ u32 s.clock ++
    opt (fun w => u8 (match w with | .transport => 0 | .head => 1)) wait)

/-- The report that a start or a stop of an EXPIRED watch sends (R172). -/
def State.clearExpired (s : State) (w : WatchId) : State :=
  if (s.watch w).state = .expired then s.reportCleared w.num none else s

/-- The request Start (R172). -/
def State.startWatch (s : State) (w : WatchId) (length : Nat) : State :=
  (s.clearExpired w).setWatch w { state := .running, remaining := length }

/-- The request Stop (R172). -/
def State.stopWatch (s : State) (w : WatchId) : State :=
  (s.clearExpired w).setWatch w { state := .idle, remaining := 0 }

/-- The request Halt: a RUNNING watch becomes IDLE and an EXPIRED one stays so (R172). -/
def State.haltWatch (s : State) (w : WatchId) : State :=
  if (s.watch w).state = .running then s.setWatch w { state := .idle, remaining := 0 } else s

/-- The timeout in force of a watch. -/
def State.timeout (s : State) (w : WatchId) : Nat := timeoutOf s.inputs.timeouts w

/-! ## The line state (chapter 11) -/

/-- The fields of readiness, in the order of R193. -/
inductive ReadyField where
  | program | x | y | r | span | head
  deriving DecidableEq, Repr

/-- The line commands a LINE_STATE report names (R193). -/
inductive LineCommand where
  | run | hold | stop | recover
  deriving DecidableEq, Repr

/-- The causes of a LINE_STATE report (R193). -/
inductive LineCause where
  | command (c : LineCommand)
  | alarm (src : Source)
  | quiescent
  | recoveryEnd
  | readiness (f : ReadyField)
  deriving DecidableEq, Repr

/-- The cause and its detail on the link (R193, R201). -/
def LineCause.bytes : LineCause → List Byte
  | .command c => u8 0 ++ opt u8 (some (match c with | .run => 0 | .hold => 1 | .stop => 2 | .recover => 3))
  | .alarm src => u8 1 ++ opt u8 (some src.num)
  | .quiescent => u8 2 ++ opt u8 none
  | .recoveryEnd => u8 3 ++ opt u8 none
  | .readiness f => u8 4 ++ opt u8 (some (match f with
      | .program => 0 | .x => 1 | .y => 2 | .r => 3 | .span => 4 | .head => 5))

/-- The line state in force. -/
def State.line (s : State) : LineState := s.alarms.line.state

/-- A change of the line state with its LINE_STATE report (R193). The recovery parts are absent outside RECOVERING
(R190, R191, R192). -/
def State.setLine (s : State) (new : LineState) (cause : LineCause) : State :=
  State.emit
    { s with alarms := { s.alarms with line := { s.alarms.line with state := new, recovery := none } } }
    0x41#8 (u8 new.num ++ u8 s.line.num ++ cause.bytes ++ u32 s.clock)

/-- Readiness (R187). -/
def Line.ready (l : Line) : Bool :=
  l.programLoaded && l.homedX && l.homedY && l.homedR && l.homedSpan && !l.headHalted

/-- Readiness judged in the event of a notice (R187). -/
def State.judgeReadiness (s : State) (f : ReadyField) : State :=
  match s.line, s.alarms.line.ready with
  | .unready, true => s.setLine .ready (.readiness f)
  | .ready, false => s.setLine .unready (.readiness f)
  | .held, false => s.setLine .unready (.readiness f)
  | _, _ => s

def Line.homed (l : Line) : Axis → Bool
  | .x => l.homedX | .y => l.homedY | .r => l.homedR | .span => l.homedSpan

def Line.setHomed (l : Line) (a : Axis) (b : Bool) : Line :=
  match a with
  | .x => { l with homedX := b } | .y => { l with homedY := b } | .r => { l with homedR := b }
  | .span => { l with homedSpan := b }

def ReadyField.ofAxis : Axis → ReadyField
  | .x => .x | .y => .y | .r => .r | .span => .span

/-- The notice of TPS or HDC that an axis has gained or lost its homing (R122, R123, R141, R187). -/
def State.noticeHomed (s : State) (a : Axis) (b : Bool) : State :=
  if s.alarms.line.homed a = b then s
  else State.judgeReadiness
    { s with alarms := { s.alarms with line := s.alarms.line.setHomed a b } } (.ofAxis a)

/-- The notice of PGS that the store has entered or left LOADED (R46, R187). -/
def State.noticeProgram (s : State) (b : Bool) : State :=
  if s.alarms.line.programLoaded = b then s
  else State.judgeReadiness
    { s with alarms := { s.alarms with line := { s.alarms.line with programLoaded := b } } } .program

/-- The notice of HDC that the head has entered or left HALTED (R138, R187). -/
def State.noticeHalted (s : State) (b : Bool) : State :=
  if s.alarms.line.headHalted = b then s
  else State.judgeReadiness
    { s with alarms := { s.alarms with line := { s.alarms.line with headHalted := b } } } .head

/-! ## Boards and entries (R63, R66) -/

/-- The board with an id in either slot. -/
def State.board? (s : State) (id : Nat) : Option Board :=
  match s.boards.active with
  | some b => if b.id = id then some b else s.boards.next.filter fun b => b.id = id
  | none => s.boards.next.filter fun b => b.id = id

/-- A change of the board with an id. -/
def State.modifyBoard (s : State) (id : Nat) (f : Board → Board) : State :=
  { s with boards := { s.boards with
      active := s.boards.active.map fun b => if b.id = id then f b else b
      next := s.boards.next.map fun b => if b.id = id then f b else b } }

/-- The entry a reference names. -/
def State.entry? (s : State) (ref : EntryRef) : Option Entry :=
  (s.board? ref.board).bind fun b => b.entries[ref.index]?

/-- A change of the entry a reference names. -/
def State.modifyEntry (s : State) (ref : EntryRef) (f : Entry → Entry) : State :=
  s.modifyBoard ref.board fun b => { b with entries := b.entries.modify ref.index f }

/-- The terminal statuses of R67. -/
def EntryStatus.terminal : EntryStatus → Bool
  | .inserted | .unclinched | .failed | .missed | .skipped => true
  | _ => false

/-- An entry brought to a terminal status: no pocket, the cause given, the host-remake mark cleared (R66, R82). -/
def Entry.close (e : Entry) (status : EntryStatus) (cause : Option EntryCause) : Entry :=
  { e with status := status, pocket := none, cause := cause, hostRemake := false }

/-! ## Raises (R180, R183, R191) -/

/-- The stop of the measurement in flight at the entry into STOPPED (R116). -/
def State.abandonMeasurement (s : State) : State :=
  match s.verifier.flight with
  | none => s
  | some _ => { s with verifier := { s.verifier with
      flight := none, contacts := false, range := none
      counts := { s.verifier.counts with abandoned := wrapInc s.verifier.counts.abandoned } } }

/-- The axis of a homing that ends before it is done (R123, R141): not homed, UNHOMED. Its drive stays enabled (DESIGN CHOICE,
assumption log 40). -/
def AxisRec.abortHoming (a : AxisRec) : AxisRec :=
  { a with homed := false, state := .unhomed, parked := none, slowing := false }

/-- Is the axis in a stage of its homing? -/
def AxisRec.isHoming (a : AxisRec) : Bool := match a.state with | .homing _ => true | _ => false

/-- The end of the homing of one axis, with the notice to ALC (R123, R141). -/
def State.abortHoming (s : State) (a : Axis) : State :=
  if (s.axis a).isHoming then
    (s.setAxis a (s.axis a).abortHoming).noticeHomed a false
  else s

/-- An axis of a move that ends by STOP: SETTLING becomes IDLE at once, MOVING decelerates (R135). -/
def AxisRec.stopMove (a : AxisRec) : AxisRec := if a.state = .settling then { a with state := .idle } else a

/-- The entry into STOPPED at TPS: homings end (R123) and a move in flight is kept for its restart (R135). The TABLE
watch halts (R135; for a homing DEDUCED, assumption log 12). A table that is not positioned and has no move in flight, since
an axis has left its window, keeps its purpose and its SETTLING axes (DEDUCED, assumption log 35). -/
def State.stopTable (s : State) : State :=
  let homing := s.table.x.isHoming || s.table.y.isHoming || s.table.r.isHoming
  let s1 := ((s.abortHoming .x).abortHoming .y).abortHoming .r
  let s2 := if homing then s1.haltWatch .table else s1
  if s2.table.inFlight then
    State.haltWatch
      { s2 with table := { s2.table with
          x := s2.table.x.stopMove, y := s2.table.y.stopMove, r := s2.table.r.stopMove
          inFlight := false, positioned := false, settle := none, kept := s2.table.purpose, purpose := none } } .table
  else s2

/-- The entry into STOPPED at the span axis: a homing ends (R141), a span move in flight is kept (R152), and the SPAN
watch halts. An axis that is SETTLING without a move in flight has left its window and stays as it is (R140). The target of
a move that is kept stays in the axis record too (DEDUCED, assumption log 26). -/
def State.stopSpan (s : State) : State :=
  let s1 := s.abortHoming .span
  let s2 : State :=
    if s1.head.spanMoving then
      { s1 with head := { s1.head with
          span := s1.head.span.stopMove, keptSpan := s1.head.span.target, spanMoving := false } }
    else s1
  s2.haltWatch .span

/-- The state a head records when it halts (R138); one that is HALTED already keeps its own (DEDUCED, assumption log
21). -/
def HeadState.haltSource : HeadState → HaltedFrom
  | .top => .top | .pickStroke => .pickStroke | .pickSpanWait => .pickSpanWait | .form => .form | .wait => .wait
  | .drive .. => .drive | .clinch => .clinch | .rise => .rise | .discard => .discard | .halted src _ => src

/-- Is the head HALTED? -/
def HeadState.isHalted : HeadState → Bool
  | .halted .. => true
  | _ => false

/-- The outcomes of R68. -/
inductive HeadOutcome where
  | inserted
  | unclinched
  | failedOpen (cause : EntryCause) (mark : Bool)
  deriving DecidableEq, Repr

/-- HDC's outcome notice (R68). A notice that does not find its entry IN_HEAD changes nothing. -/
def State.noticeOutcome (s : State) (ref : EntryRef) (o : HeadOutcome) : State :=
  match s.entry? ref with
  | none => s
  | some e =>
    if e.status = .inHead then
      s.modifyEntry ref fun e =>
        match o with
        | .inserted => e.close .inserted none
        | .unclinched => { e.close .unclinched none with unclinched := true }
        | .failedOpen cause mark =>
          { e with status := .failedOpen, cause := some cause, unclinched := e.unclinched || mark }
    else s

/-- The component of the entry held is given up: FAILED_OPEN with its cause, counted, and the entry held becomes
absent (R152, R153). -/
def State.failHeld (s : State) (cause : EntryCause) (mark : Bool) : State :=
  match s.head.held with
  | none => s
  | some h =>
    let s1 := s.noticeOutcome h.ref (.failedOpen cause mark)
    { s1 with head := { s1.head with
        held := none
        counts := { s1.head.counts with failedOpen := wrapInc s1.head.counts.failedOpen } } }

/-- The head outputs released at a halt by STOP; jaw air stays (R152). -/
def HeadOutputs.halted (o : HeadOutputs) : HeadOutputs :=
  { o with pick := false, form := false, drive := none, release := false, rise := false, clinch := none }

/-- The clinch unit at a halt by STOP: a stroke stops and keeps its direction, a retract goes on (R152). -/
def ClinchState.halted : ClinchState → ClinchState
  | .stroking d => .stopped (some d)
  | c => c

/-- The component of a drive or a clinch that a halt cuts short (R152). -/
def State.giveUpHeld (s : State) : State :=
  match s.head.state with
  | .drive .. => s.failHeld .halted false
  | .clinch => s.failHeld .halted true
  | _ => s

/-- The head record at a halt by STOP (R152). -/
def Head.halted (h : Head) : Head :=
  { h with
    state := .halted h.state.haltSource false
    outputs := h.outputs.halted, clinch := h.clinch.halted }

/-- The entry into STOPPED at the head (R152). A head already HALTED stays as it is (section 8.9). -/
def State.haltHead (s : State) : State :=
  if s.head.state.isHalted then s
  else
    let s1 := s.giveUpHeld
    (State.haltWatch { s1 with head := s1.head.halted } .head).noticeHalted true

/-- The entry into STOPPED at the conveyor: a run in flight is halted (R164). -/
def State.haltConveyor (s : State) : State :=
  match s.conveyor.state with
  | .entryRun false reached =>
    State.haltWatch { s with conveyor := { s.conveyor with
      state := .entryRun true reached
      outputs := { s.conveyor.outputs with entryRun := false } } } .conveyor
  | .unloading false seen =>
    State.haltWatch { s with conveyor := { s.conveyor with
      state := .unloading true seen
      outputs := { s.conveyor.outputs with exitRun := false } } } .conveyor
  | _ => s

/-- The entry of the line into STOPPED (R190, R191), with what every block does in that event. The index, a gate
stroke, the dwells and the clamp strokes run on (R13, R18, R92, R164). -/
def State.enterStopped (s : State) (cause : LineCause) : State :=
  (((((s.setLine .stopped cause).abandonMeasurement).stopTable).haltHead).stopSpan).haltConveyor

/-- The higher of two classes, in the order WARN, HOLD, STOP (R180). -/
def AlarmClass.higher (a b : AlarmClass) : AlarmClass := if a.num < b.num then b else a

/-- Is the class HOLD or STOP? -/
def AlarmClass.serious : AlarmClass → Bool
  | .hold | .stop => true
  | _ => false

/-- What a raise does to its source record (R180). -/
def SourceRec.raised (r : SourceRec) (cls : AlarmClass) (ctx : Context) : SourceRec :=
  { r with pending := true, cls := r.cls.higher cls, count := holdInc r.count, context := ctx }

/-- What a raise of class HOLD or STOP does to the capture record (R183). -/
def Capture.judged (c : Capture) (src : Source) (cls : AlarmClass) (ctx : Context) (line : LineState) (time : Nat) :
    Capture :=
  if cls.serious then
    match c.content with
    | none => { c with content := some { source := src, cls := cls, line := line, context := ctx, time := time } }
    | some _ => { c with overflow := holdInc c.overflow }
  else c

/-- A raise at ALC, up to its ALARM report: the source record, the capture record, the report (R180, R181, R183). -/
def State.recordRaise (s : State) (src : Source) (cls : AlarmClass) (ctx : Context) : State :=
  let captured := cls.serious && s.alarms.capture.content.isNone
  let r := (s.source src).raised cls ctx
  let s1 := s.setSource src r
  let s2 : State :=
    { s1 with alarms := { s1.alarms with capture := s1.alarms.capture.judged src cls ctx s.line s.clock } }
  s2.emit 0x40#8 (u8 src.num ++ u8 cls.num ++ u8 r.count ++ ctx.bytes ++ u32 s.clock ++ yn captured)

/-- The effect of a raise on the line (R191). -/
def State.lineEffect (s : State) (src : Source) (cls : AlarmClass) : State :=
  if cls = .hold ∧ s.line = .running then s.setLine .holding (.alarm src)
  else if cls = .stop ∧ s.line ≠ .stopped then s.enterStopped (.alarm src)
  else s

/-- A raise (R180, R191). With class NONE it does nothing. -/
def State.raise (s : State) (src : Source) (cls : AlarmClass) (ctx : Context) : State :=
  match cls with
  | .none => s
  | c => (s.recordRaise src c ctx).lineEffect src c

/-! ## The fall-back rule (R69) -/

/-- Is the entry in a status the fall-back rule takes it from (R69)? -/
def EntryStatus.fallsBack : EntryStatus → Bool
  | .assigned | .fired | .loaded => true
  | _ => false

/-- STEP_MISSED for an entry given up by the fall-back rule (R69). -/
def State.raiseMissed (s : State) (ref : EntryRef) (code : Nat) (station : Option (Fin 80)) (detail : Nat) : State :=
  s.raise .stepMissed .warn
    { board := some ref.board, index := some ref.index, code := some code, station := station.map Fin.val,
      detail := detail }

/-- The fall-back rule for one entry, with the remake counted or not (R69). An entry in another status is left as
it is (R68). -/
def State.fallBack (s : State) (ref : EntryRef) (counts : Bool) (station : Option (Fin 80)) : State :=
  match s.board? ref.board, s.entry? ref with
  | some b, some e =>
    if e.status.fallsBack then
      if b.fenced then
        (s.modifyEntry ref fun e => e.close .missed (some .fenced)).raiseMissed ref e.code station 1
      else if counts && decide (e.remakeLimit ≤ e.remakes) then
        (s.modifyEntry ref fun e => e.close .missed (some .limit)).raiseMissed ref e.code station 2
      else
        let s1 := s.modifyEntry ref fun e =>
          { e with status := EntryStatus.queued, pocket := none, remakes := if counts then e.remakes + 1 else e.remakes }
        { s1 with boards := { s1.boards with queue := s1.boards.queue ++ [ref] } }
    else s
  | _, _ => s

end Sys2Proof.Machine
end

