-- ==== Sys2Proof/Machine/Flags.lean ====
section
/-! DEFINITION. The conditions the manual reads from the state: which operation is due, the index-hold set, work present,
the candidate and its wait, the entry wanted, quiescence. None of them is stored; each is judged afresh. -/

namespace Sys2Proof.Machine

/-- The line is RUNNING or HOLDING. -/
def State.working (s : State) : Bool := s.line = .running || s.line = .holding

/-- The line is RUNNING. -/
def State.running (s : State) : Bool := s.line = .running

/-! ## The program store (chapter 3) -/

/-- The header of the store, in RECEIVING and LOADED (R46). -/
def Store.header? : Store → Option Header
  | .empty => none
  | .receiving h _ => some h
  | .loaded h .. => some h

/-- The step array (R46). -/
def Store.steps : Store → List StepRecord
  | .empty => []
  | .receiving _ l => l
  | .loaded _ l .. => l

/-- The resolved insert table (R46). -/
def Store.inserts : Store → List Resolved
  | .loaded _ _ r _ => r
  | _ => []

/-- The store is LOADED. -/
def Store.isLoaded : Store → Bool
  | .loaded .. => true
  | _ => false

/-! ## The chain (chapter 1) -/

/-- An ASSIGNED pocket stands at the position of station `k`, and it names `k` (R6). -/
def State.assignedAt (s : State) (k : Fin 80) : Bool :=
  let q := s.pocket (s.pocketAt (stationPosition k))
  q.state = .assigned && q.station = some k

/-- A fire of station `k` is due (R6, R90). -/
def State.fireDue (s : State) (k : Fin 80) : Bool := s.working && s.assignedAt k

/-- The number of fires due (R101). -/
def State.firesDue (s : State) : Nat := (List.finRange 80).countP fun k => s.fireDue k

/-- The number of dwells running (R91, R101). -/
def State.dwellsRunning (s : State) : Nat := s.stations.fires.toList.countP fun f => f.dwell.isSome

/-- The reason FIRE of the index-hold set (R9). -/
def State.holdFire (s : State) : Bool := s.firesDue ≠ 0 || s.dwellsRunning ≠ 0

/-- A LOADED pocket stands at the verifier contacts while the line is RUNNING or HOLDING (R9, R110). -/
def State.verifyWanted (s : State) : Bool := s.working && (s.pocket (s.pocketAt 88)).state = .loaded

/-- The reason VERIFY (R9). -/
def State.holdVerify (s : State) : Bool := s.verifyWanted || s.verifier.flight.isSome

/-- The pocket states that take a gate stroke (R17). -/
def PocketState.dumped : PocketState → Bool
  | .rejected | .orphan | .unknown => true
  | _ => false

/-- The pocket at 90 takes a gate stroke while the line is RUNNING or HOLDING (R9, R17). -/
def State.gateWanted (s : State) : Bool := s.working && (s.pocket (s.pocketAt 90)).state.dumped

/-- The reason GATE (R9). -/
def State.holdGate (s : State) : Bool := s.gateWanted || s.chain.gateStroke.isSome

/-- A gate stroke is due (R17). -/
def State.gateDue (s : State) : Bool := s.gateWanted && s.chain.gateStroke.isNone

/-- A VERIFIED pocket stands at the transfer point. -/
def State.verifiedAtTransfer (s : State) : Bool := (s.pocket (s.pocketAt 96)).state = .verified

/-- The reason TRANSFER (R9): the pick stroke is in flight in PICK, stage STROKE (R142). -/
def State.holdTransfer (s : State) : Bool := s.working && s.verifiedAtTransfer || s.head.state = .pickStroke

/-- The index-hold set is empty (R9). -/
def State.holdEmpty (s : State) : Bool := !(s.holdFire || s.holdVerify || s.holdGate || s.holdTransfer)

/-! ## The candidate (chapter 5) -/

/-- Where the candidate comes from (R80). -/
inductive CandidateSource where
  | queue | activeList | nextList
  deriving DecidableEq, Repr

/-- The wait of the candidate (R80). -/
inductive CandidateWait where
  | none | barrier | starved
  deriving DecidableEq, Repr

/-- A board's first PENDING entry (R72). -/
def Board.firstPending (b : Board) : Option Nat := b.entries.findIdx? fun e => e.status = .pending

/-- The candidate and its source (R81). -/
def State.candidate (s : State) : Option (EntryRef × CandidateSource) :=
  match s.boards.queue with
  | ref :: _ => some (ref, .queue)
  | [] =>
    match s.boards.active with
    | none => none
    | some a =>
      match a.firstPending with
      | some i => some ({ board := a.id, index := i }, .activeList)
      | none =>
        match s.boards.next with
        | none => none
        | some n => n.firstPending.map fun i => ({ board := n.id, index := i }, .nextList)

/-- The statuses in which an entry of a lower section blocks (R83). -/
def EntryStatus.blocks : EntryStatus → Bool
  | .pending | .queued | .assigned | .fired | .loaded => true
  | _ => false

/-- Does `o` block the candidate entry `e` of its board (R83)? The lower section makes `o` another entry. -/
def Entry.blocks (o e : Entry) : Bool :=
  o.image = e.image && decide (o.sect < e.sect) && !o.hostRemake && o.status.blocks

/-- The list indexes of the blocking entries of a candidate, lowest first (R83). -/
def State.blocking (s : State) (ref : EntryRef) : List Nat :=
  match s.board? ref.board, s.entry? ref with
  | some b, some e =>
    if e.hostRemake then []
    else (List.range b.entries.length).filter fun j =>
      match b.entries[j]? with
      | some o => o.blocks e
      | none => false
  | _, _ => []

/-- The active station of a code: absent while the code is starved (R40, R44). -/
def CodeRecord.activeStation (c : CodeRecord) : Option (Fin 80) :=
  if c.starved then none else c.stations[c.active]?

/-- The active station of a code by number. -/
def State.activeStation (s : State) (code : Nat) : Option (Fin 80) := (s.code? code).bind (·.activeStation)

/-- The code of an entry. -/
def State.codeOf (s : State) (ref : EntryRef) : Nat := ((s.entry? ref).map (·.code)).getD 0

/-- The wait of a candidate (R83, R84): the barrier is judged first. -/
def State.waitOf (s : State) (ref : EntryRef) : CandidateWait :=
  if s.blocking ref ≠ [] then .barrier
  else if s.activeStation (s.codeOf ref) = none then .starved
  else .none

/-- The wait of the candidate; NONE when there is none (R80). -/
def State.wait (s : State) : CandidateWait :=
  match s.candidate with
  | some (ref, _) => s.waitOf ref
  | none => .none

/-- Assignment is open (R87). -/
def State.assignmentOpen (s : State) : Bool := s.running && s.candidate.isSome && s.wait = .none

/-- An assignment of the pocket at entry is due: assignment is open, and the pocket is EMPTY and has not been assigned while it
stands there (R87). -/
def State.assignmentDue (s : State) : Bool :=
  s.assignmentOpen && (s.pocket (s.pocketAt 0)).state = .empty && !s.chain.entryTaken

/-- Work is present (R10). -/
def State.workPresent (s : State) : Bool :=
  s.chain.pockets.toList.any (fun k => k.state ≠ .empty) || (s.candidate.isSome && s.wait = .none)

/-- An index is due (R11). -/
def State.indexDue (s : State) : Bool :=
  s.chain.index = .idle && s.running && s.workPresent && s.holdEmpty

/-! ## The table (chapter 7) -/

/-- The counter of an axis lies within `w` counts of `t`. -/
def AxisRec.near (a : AxisRec) (t : Int) (w : Nat) : Bool := decide ((t - a.counter).natAbs ≤ w)

/-- The counter of an axis lies within `w` counts of its target (R120, R132). -/
def AxisRec.inWindow (a : AxisRec) (w : Nat) : Bool :=
  match a.target with
  | some t => a.near t w
  | none => false

/-- MOVING, SETTLING or HOMING (R129). -/
def AxisRec.inMotion (a : AxisRec) : Bool := a.state = .moving || a.state = .settling || a.isHoming

/-- X, Y and R are all homed (R130). -/
def Table.homed (t : Table) : Bool := t.x.homed && t.y.homed && t.r.homed

/-- An axis of X, Y and R is HOMING. -/
def Table.homing (t : Table) : Bool := t.x.isHoming || t.y.isHoming || t.r.isHoming

/-- The table is at the load position (R129). -/
def Table.atLoad (t : Table) : Bool :=
  t.homed && !(t.x.inMotion || t.y.inMotion || t.r.inMotion)
    && t.x.near t.geometry.lx t.geometry.window && t.y.near t.geometry.ly t.geometry.window
    && t.r.near 0 t.geometry.window

/-- Is the board with this id in phase CLAMPED (R76)? -/
def State.clamped (s : State) (id : Nat) : Bool := (s.board? id).any fun b => b.phase = .clamped

/-- The entry the table is wanted for (R130). -/
def State.entryWanted (s : State) : Option EntryRef :=
  match s.head.state with
  | .pickStroke | .pickSpanWait | .form | .wait => s.head.held.map (·.ref)
  | .top =>
    if s.verifiedAtTransfer then
      (s.pocket (s.pocketAt 96)).entry.filter fun ref => s.clamped ref.board
    else none
  | _ => none

/-- The head is in DRIVE, CLINCH or RETURN (R130). -/
def HeadState.down : HeadState → Bool
  | .drive .. | .clinch | .rise => true
  | _ => false

/-- An entry move is due, for the entry given (R130). -/
def State.entryMoveDue (s : State) : Option EntryRef :=
  match s.entryWanted with
  | none => none
  | some ref =>
    if s.clamped ref.board && s.table.purpose ≠ some (.entry ref) && !s.table.inFlight && !s.table.homing
        && s.table.homed && !s.head.state.down && s.running
    then some ref else none

/-- A load-position move is due (R133). -/
def State.loadMoveDue (s : State) : Bool :=
  s.table.loadRequest && !(s.boards.active.any fun b => b.phase = .clamped) && !s.table.inFlight
    && !s.table.homing && s.table.homed && s.running

/-- The table is positioned for an entry (R132, R145). -/
def State.positionedFor (s : State) (ref : EntryRef) : Bool :=
  s.table.positioned && s.table.purpose = some (.entry ref)

/-! ## The head (chapter 8) -/

/-- The count at which a span stands (R140). -/
def spanCount (span : Nat) : Int := span * 40

/-- The span axis is IN_POSITION with the target given (R143, R145). -/
def Head.spanAt (h : Head) (t : Int) : Bool := h.span.state = .inPosition && h.span.target = some t

/-- The span axis is in a span move to the target given (R144). -/
def Head.spanGoing (h : Head) (t : Int) : Bool := h.spanMoving && h.span.target = some t

/-- A pick is due (R142). -/
def State.pickDue (s : State) : Bool := s.running && s.head.state = .top && s.verifiedAtTransfer

/-- A drive is due (R145). -/
def State.driveDue (s : State) : Bool :=
  s.running && s.head.state = .wait && s.head.clinch = .retracted
    && s.head.held.any fun h => s.positionedFor h.ref && s.head.spanAt (spanCount h.span)

/-- A discard is due in WAIT (R149). -/
def State.discardDue (s : State) : Bool := s.running && s.head.state = .wait && s.head.unowned

/-! ## The conveyor (chapter 9) -/

/-- BCV needs the table at the load position (R158). -/
def State.loadNeeded (s : State) : Bool :=
  (s.conveyor.state = .empty && s.boards.active.any fun b => b.phase = .waiting) || s.conveyor.state = .tableWait

/-- A load is due (R159). -/
def State.loadDue (s : State) : Bool :=
  (s.boards.active.any fun b => b.phase = .waiting) && s.conveyor.state = .empty && s.table.atLoad
    && !s.pins.stopSensor && !s.pins.exitSensor && s.running

/-- An entry run is due (R160). -/
def State.entryRunDue (s : State) : Bool := s.conveyor.state = .entryWait && s.pins.entrySensor && s.running

/-- The head states in which a panel may be released (R162). -/
def HeadState.clear : HeadState → Bool
  | .top | .pickStroke | .pickSpanWait | .form | .wait | .discard => true
  | _ => false

/-- An unload is due (R162). -/
def State.unloadDue (s : State) : Bool :=
  s.conveyor.state = .clamped && s.conveyor.unloadRequest && s.head.state.clear && s.head.clinch = .retracted
    && !s.table.inFlight && s.running

/-- An exit run is due (R163). -/
def State.exitRunDue (s : State) : Bool := s.conveyor.state = .tableWait && s.table.atLoad && s.running

/-- Conveyor motion is present (R157). -/
def TransportState.motion : TransportState → Bool
  | .entryRun halted _ => !halted
  | .unloading halted _ => !halted
  | .clamping | .unclamping => true
  | _ => false

/-! ## Quiescence and recovery (chapter 11) -/

/-- The line is quiescent (R189). -/
def State.quiescent (s : State) : Bool :=
  s.chain.index = .idle && !s.holdFire && !s.holdVerify && !s.holdGate
    && (s.head.state = .top || s.head.state = .wait) && !s.head.spanMoving && !s.head.span.isHoming
    && !s.table.inFlight && !s.table.homing && !s.conveyor.state.motion

/-- The head's part of recovery is done (R154). -/
def State.headRecovered (s : State) : Bool :=
  (s.head.state = .top || s.head.state = .wait) && s.head.clinch = .retracted && !s.head.spanMoving

/-- The condition of a level source (R169). -/
def State.levelCondition (s : State) : Source → Bool
  | .estop => s.inputs.estop
  | .guardOpen => s.inputs.guardClosed.state = .opened
  | .airLow => s.inputs.airOk.state = .opened
  | _ => false

/-- The level sources (R169, R177). -/
def Source.level : Source → Bool
  | .estop | .guardOpen | .airLow => true
  | _ => false

/-- The sources pending with class raised HOLD or STOP (R188). -/
def State.seriousPending (s : State) (src : Source) : Bool := (s.source src).pending && (s.source src).cls.serious

end Sys2Proof.Machine
end

