-- ==== Sys2Proof/Machine/BoardOps.lean ====
section
/-! DEFINITION. The operations of BDQ that several families share: the board report, the finishing of a board with the
promotion of the next, and the completion test (R76, R77, R78, R203). -/

namespace Sys2Proof.Machine

/-- The number of entries of a board in a status. -/
def Board.count (b : Board) (st : EntryStatus) : Nat := b.entries.countP fun e => e.status = st

/-- The number of entries whose unclinched mark is set (R78). -/
def Board.marked (b : Board) : Nat := b.entries.countP fun e => e.unclinched

/-- Every entry of the board is terminal (R76). -/
def Board.allTerminal (b : Board) : Bool := b.entries.all fun e => e.status.terminal

/-- The outcome of a board report: COMPLETE 0, COMPLETE_WITH_FAULTS 1, ABANDONED 2 (R78, R203). -/
def Board.outcome (b : Board) : Nat :=
  if b.abandoned then 2 else if b.entries.all fun e => e.status = .inserted then 0 else 1

/-- The status number of a listed entry (R203). -/
def listedStatus : EntryStatus → Nat
  | .unclinched => 0 | .failed => 1 | .missed => 2 | .skipped => 3 | _ => 0

/-- A listed entry of the board report in 3 bytes (R203). -/
def Entry.listed (e : Entry) : List Byte :=
  u16 (e.step + 1024 * e.image)
    ++ u8 (listedStatus e.status + 4 * (e.cause.elim 0 fun c => c.num + 1) + 32 * e.unclinched.toNat)

/-- The payload of BOARD_DONE (R203). -/
def Board.report (b : Board) : List Byte :=
  let listed := b.entries.filter fun e => e.status ≠ .inserted
  u32 b.id ++ u8 b.outcome ++ u16 (b.count .inserted) ++ u16 (b.count .unclinched) ++ u16 (b.count .failed)
    ++ u16 (b.count .missed) ++ u16 (b.count .skipped) ++ u16 b.marked ++ yn (decide (64 < listed.length))
    ++ counted Entry.listed (listed.take 64)

/-- A board moved from the NEXT slot to the ACTIVE slot (R77). -/
def Board.promoted (b : Board) : Board := { b with fenced := false, phase := .waiting }

/-- The finishing of the ACTIVE board: BOARD_DONE, the slot emptied, the NEXT board promoted (R77). -/
def State.finishActive (s : State) : State :=
  match s.boards.active with
  | none => s
  | some b =>
    let s1 := s.emit 0x46#8 b.report
    { s1 with boards := { s1.boards with active := s1.boards.next.map Board.promoted, next := none } }

/-- The removal of the NEXT board by ABANDON_BOARD: BOARD_DONE, and the slot emptied (R75). -/
def State.removeNext (s : State) : State :=
  match s.boards.next with
  | none => s
  | some b =>
    let s1 := s.emit 0x46#8 b.report
    { s1 with boards := { s1.boards with next := none } }

/-- The completion test of the ACTIVE board, and of the boards promoted in the event (R76, R77). -/
def completeActive : Nat → State → State
  | 0, s => s
  | n + 1, s =>
    match s.boards.active with
    | none => s
    | some b =>
      if b.allTerminal then
        match b.phase with
        | .waiting =>
          completeActive n (State.finishActive
            { s with boards := { s.boards with active := some { b with completing := true } } })
        | .clamped =>
          { s with
            boards := { s.boards with active := some { b with completing := true, phase := .unloading } }
            conveyor := { s.conveyor with unloadRequest := true } }
        | _ => { s with boards := { s.boards with active := some { b with completing := true } } }
      else s

/-- A change of the transport phase of the board the conveyor works for (R76). -/
def State.setPhase (s : State) (id : Nat) (p : Phase) : State := s.modifyBoard id fun b => { b with phase := p }

/-- The pockets that hold an entry, the queued entries and the entry in the head: Q + P + H of R70. -/
def State.entriesInWork (s : State) : Nat :=
  s.boards.queue.length + (s.chain.pockets.toList.countP fun k => k.entry.isSome)
    + (if s.head.held.isSome then 1 else 0)

end Sys2Proof.Machine
end

