-- ==== Sys2Proof/Machine/Judge.lean ====
section
/-! DEFINITION. What an event judges afresh before it ends: the following error, the windows of the axes, the head's passages
that need no arrival of their own, the starved wait, the waits of the BOARD watch, an entry run, the load request, the end
of recovery and quiescence. `State.judge` of Machine/Starts.lean puts them in their order (DESIGN CHOICE, assumption log
11). -/

namespace Sys2Proof.Machine

/-! ## The table (chapter 7) -/

/-- The size of the following error of an axis (R129). -/
def AxisRec.followSize (a : AxisRec) : Nat := (a.commanded - a.counter).natAbs

/-- FOLLOWING_ERROR for one table axis, once between two clearings of the flag (R129). -/
def State.judgeFollow (s : State) (a : Axis) : State :=
  let v := s.axis a
  if v.inMotion && decide (s.table.geometry.following < v.followSize) && !s.table.followError then
    let ref := match s.table.purpose with
      | some (.entry ref) => some ref
      | _ => none
    State.raise { s with table := { s.table with followError := true } } .followingError .stop
      { board := ref.map (·.board), index := ref.map (·.index),
        detail := axisNum a * 100000 + min v.followSize 99999 }
  else s

/-- An IN_POSITION axis of a positioned table whose counter has left the window becomes SETTLING (R132). -/
def AxisRec.leave (w : Nat) (a : AxisRec) : AxisRec :=
  if a.state = .inPosition ∧ !a.inWindow w then { a with state := .settling } else a

/-- Has the counter of an IN_POSITION axis left the window (R132)? -/
def AxisRec.left (w : Nat) (a : AxisRec) : Bool := a.state = .inPosition && !a.inWindow w

/-- The axis is at its target, SETTLING or IN_POSITION, and within the window. -/
def AxisRec.settled (w : Nat) (a : AxisRec) : Bool :=
  (a.state = .settling || a.state = .inPosition) && a.inWindow w

/-- The settle time may run: all three axes at their targets and within the window, one of them SETTLING (R132). -/
def Table.maySettle (t : Table) : Bool :=
  t.purpose.isSome && t.x.settled t.geometry.window && t.y.settled t.geometry.window
    && t.r.settled t.geometry.window
    && (t.x.state = .settling || t.y.state = .settling || t.r.state = .settling)

/-- The departures from the window, while a purpose is present (R132; DEDUCED, assumption log 19). -/
def Table.departed (t : Table) : Table :=
  let w := t.geometry.window
  if t.purpose.isSome then
    { t with
      x := t.x.leave w, y := t.y.leave w, r := t.r.leave w
      positioned := t.positioned && !(t.x.left w || t.y.left w || t.r.left w) }
  else t

/-- The settle timer: running while the table may settle, idle otherwise (R132). -/
def Table.timed (t : Table) : Table := { t with settle := if t.maySettle then some (t.settle.getD 0) else none }

/-- The settle time has run: the table is positioned for its purpose (R132). -/
def State.positionTable (s : State) : State :=
  State.stopWatch
    { s with table := { s.table with
        x := { s.table.x with state := .inPosition }, y := { s.table.y with state := .inPosition }
        r := { s.table.r with state := .inPosition }
        positioned := true, inFlight := false, settle := none } } .table

/-- The departures of the axes from their windows (R132). -/
def State.judgeDeparture (s : State) : State := { s with table := s.table.departed }

/-- The settle timer; with a settle time of 0 the table is positioned in this event (R132). -/
def State.judgeTable (s : State) : State :=
  let s1 : State := { s with table := s.table.timed }
  if s1.table.settle.isSome && decide (s1.table.geometry.settle = 0) then s1.positionTable else s1

/-- The axis is in the park stage of its homing (R122). -/
def AxisRec.isParking (a : AxisRec) : Bool := a.state = .homing .park

/-- The HOME_DONE report: the axis and its counter (R122, R141). -/
def State.reportHomed (s : State) (a : Axis) : State :=
  s.emit 0x44#8 (u8 (axisNum a) ++ i32 (s.axis a).counter)

/-- The end of the park of a table axis (R122, R123). -/
def State.parkDone (s : State) (a : Axis) : State :=
  let s1 := (s.setAxis a { s.axis a with state := .inPosition, parked := none, slowing := false }).reportHomed a
  if s1.table.homing then s1 else s1.stopWatch .table

/-- The window and settle time of one parking table axis (R122). -/
def State.judgePark (s : State) (a : Axis) : State :=
  let v := s.axis a
  if v.isParking then
    if v.inWindow s.table.geometry.window then
      if s.table.geometry.settle = 0 then s.parkDone a
      else s.setAxis a { v with parked := some (v.parked.getD 0) }
    else s.setAxis a { v with parked := none }
  else s

/-! ## The span axis and the head (chapter 8) -/

/-- The span axis becomes IN_POSITION from SETTLING: no span move is in flight any more (R140). -/
def State.spanArrived (s : State) : State :=
  State.stopWatch
    { s with head := { s.head with span := { s.head.span with state := .inPosition }, spanMoving := false } } .span

/-- The span axis in its 4-count window: the end of the park (R141), of a span move, or a departure (R140). -/
def State.judgeSpan (s : State) : State :=
  let v := s.head.span
  match v.state with
  | .homing .park =>
    if v.inWindow 4 then
      ((s.setAxis .span { v with state := .inPosition, slowing := false }).reportHomed .span).stopWatch .span
    else s
  | .settling =>
    if v.inWindow 4 then s.spanArrived else s
  | .inPosition => if v.inWindow 4 then s else s.setAxis .span { v with state := .settling }
  | _ => s

/-- The start of a span move (R140). -/
def State.startSpan (s : State) (t : Int) : State :=
  let v := s.head.span
  State.startWatch
    { s with head := { s.head with
        keptSpan := none, spanMoving := true
        span := { v with target := some t, state := if v.commanded = t then .settling else .moving } } }
    .span (s.timeout .span)

/-- The span move that the head waits for, in SPAN_WAIT (R144) and in WAIT while the line runs (R145). -/
def State.judgeSpanMove (s : State) : State :=
  match s.head.held with
  | none => s
  | some h =>
    let t := spanCount h.span
    if (s.head.state = .pickSpanWait || (s.head.state = .wait && s.running)) && s.head.span.homed
        && !s.head.span.isHoming && !s.head.spanAt t && !s.head.spanGoing t then
      (s.startSpan t).judgeSpan
    else s

/-- The entry into FORM (R144). -/
def State.enterForm (s : State) : State :=
  State.startWatch
    { s with head := { s.head with state := .form, outputs := { s.head.outputs with form := true } } }
    .head (s.timeout .head)

/-- The entry into DISCARD (R149). -/
def State.enterDiscard (s : State) : State :=
  State.startWatch
    { s with head := { s.head with
        state := .discard, outputs := { s.head.outputs with release := true, jawAir := false } } }
    .head (s.timeout .head)

/-- The head holds an unowned component in SPAN_WAIT in recovery, and no span move is in flight (R154). -/
def State.discardInCourse (s : State) : Bool :=
  s.line = .recovering && s.head.state = .pickSpanWait && s.head.unowned && !s.head.spanMoving

/-- The passage from SPAN_WAIT to FORM (R144), in whose place an unowned component goes to DISCARD in recovery, once the kept
span move has ended (R154; at once where none was kept: DEDUCED, assumption log 41). -/
def State.judgeForm (s : State) : State :=
  match s.head.held with
  | some h => if s.head.state = .pickSpanWait && s.head.spanAt (spanCount h.span) then s.enterForm else s
  | none => if s.discardInCourse then s.enterDiscard else s

/-- The head becomes TOP: its jaws open, the HEAD watch stopped (R139, R148, R150; jaw air: DEDUCED, assumption log 13). -/
def State.enterTop (s : State) : State :=
  State.stopWatch
    { s with head := { s.head with
        state := .top, outputs := { s.head.outputs with rise := false, release := false, jawAir := false } } } .head

/-- The end of RETURN (R148). -/
def State.judgeRise (s : State) : State :=
  if s.head.state = .rise && s.pins.headTop && s.head.clinch = .retracted then s.enterTop else s

/-- The end of DISCARD (R149). -/
def State.judgeDiscard (s : State) : State :=
  if s.head.state = .discard && s.pins.jawsOpen then
    State.enterTop { s with head := { s.head with
      unowned := false, counts := { s.head.counts with discards := wrapInc s.head.counts.discards } } }
  else s

/-! ## The starved wait (R84) -/

/-- The candidate that waits on starvation, with its source (R84). -/
def State.starvedCandidate (s : State) : Option (EntryRef × CandidateSource) :=
  s.candidate.filter fun c => s.waitOf c.1 = .starved

/-- The number of a candidate source in a STARVED raise (R84). -/
def CandidateSource.num : CandidateSource → Nat
  | .queue => 0 | .activeList => 1 | .nextList => 2

/-- The starved-wait record cleared, and the STARVED raise of a new wait (R84). -/
def State.judgeStarved (s : State) : State :=
  match s.starvedCandidate with
  | none => { s with starved := none }
  | some (ref, src) =>
    if s.starved.map (·.entry) = some ref then s
    else if s.running then
      State.raise { s with starved := some { entry := ref, code := s.codeOf ref } } .starved s.alarms.slots.supply
        { board := some ref.board, index := some ref.index, code := some (s.codeOf ref), detail := src.num }
    else { s with starved := none }

/-! ## The conveyor and the BOARD waits (chapters 9 and 10) -/

/-- The end of a wait of the BOARD watch (R174). -/
def State.endTransportWait (s : State) : State :=
  let s1 := if s.inputs.transportWait.any (·.expired) then s.reportCleared 6 (some .transport) else s
  { s1 with inputs := { s1.inputs with transportWait := none } }

def State.beginTransportWait (s : State) (id : Nat) : State :=
  let w : WaitRec := { expired := false, remaining := s.inputs.timeouts.board, board := id, index := none }
  { s with inputs := { s.inputs with transportWait := some w } }

def State.endHeadWait (s : State) : State :=
  let s1 := if s.inputs.headWait.any (·.expired) then s.reportCleared 6 (some .head) else s
  { s1 with inputs := { s1.inputs with headWait := none } }

def State.beginHeadWait (s : State) (ref : EntryRef) : State :=
  let w : WaitRec :=
    { expired := false, remaining := s.inputs.timeouts.board, board := ref.board, index := some ref.index }
  { s with inputs := { s.inputs with headWait := some w } }

/-- The transport in ENTRY_WAIT when the ACTIVE slot changes under it (R159). -/
def State.judgeEntryWait (s : State) : State :=
  if s.conveyor.state = .entryWait then
    match s.boards.active with
    | none => State.endTransportWait { s with conveyor := { s.conveyor with state := .empty, board := none } }
    | some b =>
      if s.conveyor.board = some b.id then s
      else State.beginTransportWait
        (State.endTransportWait { s with conveyor := { s.conveyor with board := some b.id } }) b.id
  else s

/-- The start of the entry run for a board (R160). -/
def State.startEntryRun (s : State) : State :=
  let s1 := State.startWatch
    { s with conveyor := { s.conveyor with
        state := .entryRun false false, outputs := { s.conveyor.outputs with entryRun := true } } }
    .conveyor (s.timeout .conveyor)
  let s2 := s1.endTransportWait
  match s2.conveyor.board with
  | some id => s2.setPhase id .loading
  | none => s2

/-- The entry run due in ENTRY_WAIT (R160, R164). -/
def State.judgeEntryRun (s : State) : State := if s.entryRunDue then s.startEntryRun else s

/-- BCV's load request (R158). -/
def State.judgeLoadRequest (s : State) : State :=
  if s.loadNeeded && !s.table.atLoad && !s.table.loadRequest
      && !(s.table.inFlight && s.table.purpose = some .load) && s.table.kept ≠ some .load then
    { s with table := { s.table with loadRequest := true } }
  else s

/-- The entry the head waits with for its board (R145). -/
def State.headWaiting (s : State) : Option EntryRef :=
  if s.head.state = .wait then (s.head.held.map (·.ref)).filter fun ref => !s.clamped ref.board else none

/-- Board wait, and the head wait of the BOARD watch with it (R145, R174). -/
def State.judgeBoardWait (s : State) : State :=
  match s.headWaiting, s.head.boardWait with
  | some ref, false => State.beginHeadWait { s with head := { s.head with boardWait := true } } ref
  | none, true => State.endHeadWait { s with head := { s.head with boardWait := false } }
  | _, _ => s

/-! ## Recovery and quiescence (chapter 11) -/

/-- The recovery parts, and the end of recovery (R192). -/
def State.judgeRecovery (s : State) : State :=
  match s.line, s.alarms.line.recovery with
  | .recovering, some parts =>
    let p : RecoveryParts :=
      { chain := parts.chain || s.chain.index = .idle, head := parts.head || s.headRecovered }
    let s1 : State := { s with alarms := { s.alarms with line := { s.alarms.line with recovery := some p } } }
    if p.chain && p.head then
      s1.setLine (if s1.alarms.line.ready then .held else .unready) .recoveryEnd
    else s1
  | _, _ => s

/-- HOLDING becomes HELD when the line is quiescent (R189). -/
def State.judgeQuiescent (s : State) : State :=
  if s.line = .holding ∧ s.quiescent then s.setLine .held .quiescent else s

/-! ## The judgement at the end of an event -/

/-- The axes: the departures from the windows, the following errors, which see an axis that has just left its window
(R129, R132), the settle timer, the parks and the span axis. -/
def State.judgeAxes (s : State) : State :=
  let s := s.judgeDeparture
  let s := ((s.judgeFollow .x).judgeFollow .y).judgeFollow .r
  let s := s.judgeTable
  let s := ((s.judgePark .x).judgePark .y).judgePark .r
  s.judgeSpan

/-- The head's passages. -/
def State.judgeHead (s : State) : State := (((s.judgeSpanMove).judgeForm).judgeRise).judgeDiscard

end Sys2Proof.Machine
end

