-- ==== Sys2Proof/Machine/Targets.lean ====
section
/-! DEFINITION. The target arithmetic (R127, R128) and the travel check (R55). -/

namespace Sys2Proof.Machine

/-- The rotation of stage 3, counter-clockwise by 0, 90, 180 or 270 degrees (R127). -/
def rotate (d : Nat) (u v : Int) : Int × Int :=
  match d with
  | 0 => (u, v)
  | 1 => (-v, u)
  | 2 => (-u, -v)
  | _ => (v, -u)

/-- The rounding of stage 5: to the nearest whole count, halves away from zero (R128). -/
def roundCounts (q : Int) : Int := if 0 ≤ q then (q + 500000) / 1000000 else -((500000 - q) / 1000000)

/-- The counts of a table position under a scale correction in ppm (R127 stage 5). -/
def scaled (t : Int) (ppm : Int) : Int := roundCounts (t * 4 * (1000000 + ppm))

/-- The X, Y and R targets of a step's point and direction in an image with an offset (R127). -/
def target (g : Geometry) (x y d : Nat) (offset : Nat × Nat) : Int × Int × Int :=
  let px : Int := x + offset.1
  let py : Int := y + offset.2
  let uv := rotate d (px - g.rcx) (py - g.rcy)
  (scaled (g.hx - uv.1) g.sx, scaled (g.hy - uv.2) g.sy, d * 25000)

/-- A target is within travel (R128). -/
def inTravel (g : Geometry) (t : Int × Int × Int) : Bool :=
  withinInt g.xmin g.xmax t.1 && withinInt g.ymin g.ymax t.2.1

/-- The offset of an image (R46). -/
def Header.offset (h : Header) (image : Nat) : Nat × Nat := h.offsets.getD image (0, 0)

/-- The travel check: the first pair of INSERT step and image, in program order and ascending images, whose target is
out of travel (R55). Each step is given with its index. -/
def travelFailure (g : Geometry) (h : Header) (steps : List (Nat × StepRecord)) : Option (Nat × Nat) :=
  (steps.flatMap fun p => (List.range h.images).map fun image => (p, image)).findSome? fun q =>
    let r := q.1.2
    if r.kind = 1 ∧ !inTravel g (target g r.x r.y r.byte1 (h.offset q.2)) then some (q.1.1, q.2) else none

end Sys2Proof.Machine
end

