-- ==== Sys2Proof/Machine/Starts.lean ====
section
/-! DEFINITION. The operations that a block starts in the event that makes them due: the gate stroke, the moves of the table,
pick, drive and discard, load, unload and exit run. Each start is one definition, which does nothing while its condition
does not hold; `State.judge` ends every event with them (R17, R130, R133, R142, R145, R149, R159, R162, R163, R164, R188).
A row of the table that names a start is that same start as a step of its own (DEDUCED, assumption log 2). -/

namespace Sys2Proof.Machine

/-! ## The reject gate (R17) -/

/-- A gate stroke, started when it is due (R17). -/
def State.startStroke (s : State) : State :=
  if s.gateDue then
    State.startWatch { s with chain := { s.chain with gateStroke := some (s.pocketAt 90), gateOutput := true } } .gate
      (s.timeout .gate)
  else s

/-! ## Moves of the table (R130, R131, R133) -/

/-- The INSERT step and the header an entry's target is computed from (R130). -/
def State.entryTarget (s : State) (ref : EntryRef) : Option (Int × Int × Int) :=
  match s.entry? ref, s.programs.store.header? with
  | some e, some h =>
    (s.programs.store.steps[e.step]?).map fun r => target s.table.geometry r.x r.y r.byte1 (h.offset e.image)
  | _, _ => none

/-- The targets of a move (R131). -/
def State.moveTarget (s : State) : Purpose → Option (Int × Int × Int)
  | .entry ref => s.entryTarget ref
  | .load => some (s.table.geometry.lx, s.table.geometry.ly, 0)

/-- One axis at a move start (R131). -/
def AxisRec.startMove (a : AxisRec) (t : Int) : AxisRec :=
  { a with target := some t, state := if a.commanded = t then .settling else .moving }

/-- The table at a move start (R131); a LOAD move takes the load request with it (R133). -/
def Table.startMove (t : Table) (p : Purpose) (g : Int × Int × Int) : Table :=
  { t with
    x := t.x.startMove g.1, y := t.y.startMove g.2.1, r := t.r.startMove g.2.2
    purpose := some p, inFlight := true, positioned := false, kept := none, followError := false, settle := none
    loadRequest := t.loadRequest && p ≠ .load }

/-- A move start (R131). -/
def State.startMove (s : State) (p : Purpose) : State :=
  match s.moveTarget p with
  | none => s
  | some g => State.startWatch { s with table := s.table.startMove p g } .table (s.timeout .table)

/-- An entry move, started when it is due (R130). -/
def State.startEntryMove (s : State) : State :=
  match s.entryMoveDue with
  | some ref => s.startMove (.entry ref)
  | none => s

/-- A load-position move, started when it is due (R133). -/
def State.startLoadMove (s : State) : State := if s.loadMoveDue then s.startMove .load else s

/-! ## Pick, drive and discard (R142, R145, R146, R149) -/

/-- A discard, started when it is due in WAIT (R149). -/
def State.startDiscard (s : State) : State := if s.discardDue then s.enterDiscard else s

/-- The entry into PICK, stage STROKE (R142, R154). -/
def State.enterPick (s : State) : State :=
  State.startWatch
    { s with head := { s.head with
        state := .pickStroke, outputs := { s.head.outputs with pick := true, jawAir := true } } }
    .head (s.timeout .head)

/-- A pick, started when it is due (R142). -/
def State.startPick (s : State) : State :=
  if s.pickDue then
    let s1 := s.enterPick
    { s1 with head := { s1.head with counts := { s1.head.counts with picks := wrapInc s1.head.counts.picks } } }
  else s

/-- A drive, started when it is due (R145, R146). -/
def State.startDrive (s : State) : State :=
  if s.driveDue then
    State.startWatch
      { s with head := { s.head with
          state := .drive false false
          outputs := { s.head.outputs with drive := s.head.held.map (·.drive) } } }
      .head (s.timeout .head)
  else s

/-! ## Load, unload and exit run (R159, R162, R163) -/

/-- A load, started when it is due (R159): with the entry sensor made the entry run starts in the same event. -/
def State.startLoad (s : State) : State :=
  match s.loadDue, s.boards.active with
  | true, some b =>
    let s1 : State := { s with conveyor := { s.conveyor with state := .entryWait, board := some b.id } }
    if s.pins.entrySensor then s1.startEntryRun else s1.beginTransportWait b.id
  | _, _ => s

/-- An unload, started when it is due (R162). -/
def State.startUnload (s : State) : State :=
  if s.unloadDue then
    { s with conveyor := { s.conveyor with
        state := .unclamping, unloadRequest := false
        outputs := { s.conveyor.outputs with
          clampClose := false, pinsUp := false, clampOpen := true, pinsDown := true } } }
  else s

/-- The exit conveyor runs and the CONVEYOR watch starts (R163, R164). -/
def State.runExit (s : State) (seen : Bool) : State :=
  State.startWatch
    { s with conveyor := { s.conveyor with
        state := .unloading false seen, outputs := { s.conveyor.outputs with exitRun := true } } }
    .conveyor (s.timeout .conveyor)

/-- An exit run, started when it is due (R163). -/
def State.startExitRun (s : State) : State := if s.exitRunDue then s.runExit s.pins.exitSensor else s

/-! ## The judgement at the end of an event -/

/-- The boards and the requests that the starts of an event read: the completion of the ACTIVE board, the entry wait, an
entry run and BCV's load request (R76, R158, R159, R160). -/
def State.judgeBoards (s : State) : State :=
  (((completeActive 2 s).judgeEntryWait).judgeEntryRun).judgeLoadRequest

/-- The moves that are due start, and their axes are judged at once: an axis that is at its target settles, and a table
with a settle time of 0 is positioned in this event (R129, R130, R132, R133). -/
def State.judgeMoves (s : State) : State :=
  if s.entryMoveDue.isSome || s.loadMoveDue then ((s.startEntryMove).startLoadMove).judgeAxes else s

/-- Every start that is due, in the event that makes it due. A pre-move comes before the pick of its pocket (section
7.5.1); the rest of the order: DESIGN CHOICE, assumption log 11. -/
def State.judgeStarts (s : State) : State :=
  let s := ((s.startStroke).startDiscard).judgeDiscard
  let s := ((s.judgeMoves).startPick).startDrive
  ((s.startLoad).startUnload).startExitRun

/-- The starved wait, whose raise comes after the starts, as R188 tells them; the head's board wait; and the line. -/
def State.judgeLine (s : State) : State :=
  (((s.judgeStarved).judgeBoardWait).judgeRecovery).judgeQuiescent

/-- Everything that is judged afresh at the end of an event. -/
def State.judge (s : State) : State := ((((s.judgeAxes).judgeHead).judgeBoards).judgeStarts).judgeLine

end Sys2Proof.Machine
end

