-- ==== Sys2Proof/Machine/Answer.lean ====
section
/-! DEFINITION. The results of commands (R199): what an owner answers, and the two ways an owner's action ends. -/

namespace Sys2Proof.Machine

/-- The result codes of R199. -/
inductive ResultCode where
  | ok | unknownKind | badLength | badValue | wrongState | busy | notFound | inUse | full | sequence | duplicate
  | noProgram | wrongProduct | noTape | stationTaken | fenced | pendingAlarm | conditionPresent | outOfTravel
  | programInvalid
  deriving DecidableEq, Repr

/-- The numbers of the result codes (R199). -/
def ResultCode.num : ResultCode → Nat
  | .ok => 0x00 | .unknownKind => 0x01 | .badLength => 0x02 | .badValue => 0x03 | .wrongState => 0x04 | .busy => 0x05
  | .notFound => 0x06 | .inUse => 0x07 | .full => 0x08 | .sequence => 0x09 | .duplicate => 0x0A | .noProgram => 0x0B
  | .wrongProduct => 0x0C | .noTape => 0x0D | .stationTaken => 0x0E | .fenced => 0x0F | .pendingAlarm => 0x10
  | .conditionPresent => 0x11 | .outOfTravel => 0x12 | .programInvalid => 0x13

/-- An owner's answer: the result code and the items carried after it (R199). -/
structure Answer where
  code  : ResultCode
  items : List Byte := []
  deriving DecidableEq, Repr

/-- The payload of the reply (R199). -/
def Answer.payload (a : Answer) : List Byte := u8 a.code.num ++ a.items

/-- The state after an owner's action, and its answer. -/
abbrev Acted := State × Answer

/-- A command that changes no state and answers OK with items. -/
def State.answers (s : State) (items : List Byte) : Acted := (s, { code := .ok, items := items })

/-- A refused command: no state of the owner changes. -/
def State.refuses (s : State) (code : ResultCode) (items : List Byte := []) : Acted :=
  (s, { code := code, items := items })

/-- An accepted command whose event ends with the judgement of what it changed; the answer is made from the state
after it. -/
def State.accepts (s : State) (items : State → List Byte := fun _ => []) : Acted :=
  (s.judge, { code := .ok, items := items s.judge })

end Sys2Proof.Machine
end

