-- ==== Sys2Proof/Machine/Stations.lean ====
section
/-! DEFINITION. The station controller (chapter 2): station states with changeover and takeover, pending fires,
withdrawals, quarantine and misfeed, the tape sensor, and the owner's actions of the station and code commands. -/

namespace Sys2Proof.Machine

/-! ## Groups (R37, R39) -/

/-- Does a group match a station number (R37)? -/
def StationGroup.matches (g : StationGroup) (n : Nat) : Bool :=
  g.enabled && ((BitVec.ofNat 7 n ^^^ BitVec.ofNat 7 g.base) &&& ~~~ BitVec.ofNat 7 g.mask) = 0#7

/-- The group of station n: the first of 0..3 that matches, or none for the default group (R37). -/
def Stations.groupOf (t : Stations) (n : Nat) : Option (Fin 4) :=
  (List.finRange 4).find? fun g => (vget t.groups g).matches n

/-- The class slot of the group of a station (R37, R39). -/
def Stations.classOf (t : Stations) (n : Nat) : AlarmClass :=
  match t.groupOf n with
  | some g => (vget t.groups g).cls
  | none => t.defaultClass

/-! ## Changeover and takeover (R44, R45) -/

/-- The CHANGEOVER report (R44). -/
def State.reportChangeover (s : State) (code : Nat) (left found : Option (Fin 80)) : State :=
  s.emit 0x43#8 (u16 code ++ opt (fun k => u8 k.val) left ++ opt (fun k => u8 k.val) found)

/-- A change of one code record. -/
def State.modifyCode (s : State) (n : Nat) (f : CodeRecord → CodeRecord) : State :=
  { s with stations := { s.stations with codes := s.stations.codes.map fun c => if c.number = n then f c else c } }

/-- The places of a station list in the order of the search: from the place after the active index, wrapping round
to it (R44). -/
def searchOrder (active length : Nat) : List Nat := (List.range length).map fun i => (active + 1 + i) % length

/-- The first place of the search whose station is READY (R44). -/
def State.searchReady (s : State) (c : CodeRecord) : Option Nat :=
  (searchOrder c.active c.stations.length).find? fun i =>
    match c.stations[i]? with
    | some k => (s.station k).state = .ready
    | none => false

/-- The selection of a new active station when station `k` has left READY (R44). -/
def State.changeover (s : State) (k : Fin 80) : State :=
  match (s.station k).owner with
  | none => s
  | some n =>
    match s.code? n with
    | none => s
    | some c =>
      if c.activeStation = some k then
        match s.searchReady c with
        | some i =>
          (s.modifyCode n fun c => { c with active := i }).reportChangeover n (some k) c.stations[i]?
        | none => (s.modifyCode n fun c => { c with starved := true }).reportChangeover n (some k) none
      else s

/-- The takeover of a starved code by station `k`, which has become READY (R45). -/
def State.takeover (s : State) (k : Fin 80) : State :=
  match (s.station k).owner with
  | none => s
  | some n =>
    match s.code? n with
    | none => s
    | some c =>
      if c.starved then
        (s.modifyCode n fun c => { c with active := c.stations.idxOf k, starved := false }).reportChangeover n none
          (some k)
      else s

/-- A change of a station's state, with the changeover or the takeover it calls for (R44, R45). -/
def State.moveStation (s : State) (k : Fin 80) (new : StationState) : State :=
  let old := (s.station k).state
  let s1 := s.setStation k { s.station k with state := new }
  if old = .ready ∧ new ≠ .ready then s1.changeover k
  else if old ≠ .ready ∧ new = .ready then s1.takeover k
  else s1

/-! ## Pending fires and withdrawals (R5, R25, R30, R33) -/

/-- The pending-fire count lowered by 1; a LOCKING station whose count reaches 0 becomes LOCKED (R25, R30). -/
def State.lowerPending (s : State) (k : Fin 80) : State :=
  let r := s.station k
  s.setStation k { r with
    pending := r.pending - 1
    state := if r.state = .locking ∧ r.pending - 1 = 0 then .locked else r.state }

/-- A withdrawal request for one pocket (R5): an ASSIGNED pocket becomes EMPTY and its station's count falls. -/
def State.withdraw (s : State) (p : Fin 128) : State :=
  let k := s.pocket p
  if k.state = .assigned then
    let s1 := s.setPocket p Pocket.emptied
    match k.station with
    | some st => s1.lowerPending st
    | none => s1
  else s

/-- The withdrawal of the pocket at one position, if it is ASSIGNED and names station `k`, with the uncounted
fall-back of its entry (R33). -/
def State.withdrawAt (k : Fin 80) (s : State) (q : Fin 128) : State :=
  let v := s.pocket (s.pocketAt q)
  if v.state = .assigned ∧ v.station = some k then
    let s1 := s.withdraw (s.pocketAt q)
    match v.entry with
    | some ref => s1.fallBack ref false (some k)
    | none => s1
  else s

/-- The withdrawal of a station's assignments, in order of decreasing path position (R33). -/
def State.withdrawStation (s : State) (k : Fin 80) : State :=
  (List.finRange 128).reverse.foldl (State.withdrawAt k) s

/-- The raise of MISFEED or STATION_SUSPECT for a station, in the class of its group (R34, R35, R39). -/
def State.raiseStation (s : State) (src : Source) (k : Fin 80) (detail : Nat) : State :=
  s.raise src (s.stations.classOf k.val)
    { station := some k.val, code := (s.station k).owner, detail := detail }

/-- The quarantine of a station (R34, R44, R114). The CHANGEOVER goes with the change of state, before the withdrawals and the
raise (DESIGN CHOICE, assumption log 38). -/
def State.quarantine (s : State) (k : Fin 80) : State :=
  let s1 := match (s.station k).state with
    | .ready | .empty | .locking | .locked => (s.moveStation k .quarantined).withdrawStation k
    | _ => s
  s1.raiseStation .stationSuspect k (s1.station k).failRun

/-- A misfeed notice (R35, R44). A tail misfeed of an EMPTY station raises nothing. The CHANGEOVER goes with the change of
state (DESIGN CHOICE, assumption log 38). -/
def State.misfeed (s : State) (k : Fin 80) : State :=
  match (s.station k).state with
  | .ready | .locking | .locked =>
    let s1 := (s.moveStation k .fault).withdrawStation k
    s1.raiseStation .misfeed k (s1.station k).reel
  | .quarantined | .fault => s.raiseStation .misfeed k (s.station k).reel
  | _ => s

/-- VFY's pass notice (R112, R114). -/
def State.passNotice (s : State) (k : Fin 80) : State := s.setStation k { s.station k with failRun := 0 }

/-- VFY's fail notice: the counter rises, and reaching the threshold from one below quarantines the station (R114). -/
def State.failNotice (s : State) (k : Fin 80) : State :=
  let r := s.station k
  let s1 := s.setStation k { r with failRun := failInc r.failRun }
  if r.failRun < 15 ∧ r.failRun + 1 = s.verifier.threshold then s1.quarantine k else s1

/-! ## The tape sensor (R28) -/

/-- The arrival of a tape sensor's debounced state at STC (R28, R44). The CHANGEOVER goes with the change of state, before the
raise (DESIGN CHOICE, assumption log 38). -/
def State.tapeArrival (s : State) (k : Fin 80) (present : Bool) : State :=
  let s1 := s.setStation k { s.station k with tape := present }
  if present then s1
  else
    match (s.station k).state with
    | .ready | .locking =>
      let s2 := s1.moveStation k .empty
      s2.raise .tapeOut .warn
        { station := some k.val, code := (s2.station k).owner, detail := (s2.station k).reel }
    | _ => s1

/-! ## The station commands (R29 to R32, R36, R38) -/

/-- The station a number names (section 2.4). -/
def stationOf (n : Nat) : Option (Fin 80) := if h : n < 80 then some ⟨n, h⟩ else none

/-- The reply item of an accepted station command: the new state (section 2.4). -/
def stationReply (k : Fin 80) (s : State) : List Byte := u8 (s.station k).state.num

/-- READY if tape present, else EMPTY (R31, R32). -/
def Station.backState (r : Station) : StationState := if r.tape then .ready else .empty

/-- LOAD_STATION (R29). -/
def actLoadStation (station count low : Nat) (s : State) : Acted :=
  match stationOf station with
  | none => s.refuses .badValue
  | some k =>
    let r := s.station k
    if !within 1 65535 count || decide (65535 < low) then s.refuses .badValue
    else if r.state = .ready ∨ r.state = .locking then s.refuses .wrongState
    else if !r.tape then s.refuses .noTape
    else
      let s1 := s.setStation k { r with
        reel := count, load := count, low := low, lowArmed := decide (low ≠ 0 ∧ low < count), underrun := false
        failRun := 0 }
      let s2 := if r.state = .locked then s1 else s1.moveStation k .ready
      s2.accepts (stationReply k)

/-- LOCK_STATION (R30). -/
def actLockStation (station : Nat) (s : State) : Acted :=
  match stationOf station with
  | none => s.refuses .badValue
  | some k =>
    let r := s.station k
    match r.state with
    | .ready | .empty => (s.moveStation k (if r.pending = 0 then .locked else .locking)).accepts (stationReply k)
    | .locking | .locked => s.answers (stationReply k s)
    | _ => s.refuses .wrongState

/-- UNLOCK_STATION (R31). -/
def actUnlockStation (station : Nat) (s : State) : Acted :=
  match stationOf station with
  | none => s.refuses .badValue
  | some k =>
    let r := s.station k
    match r.state with
    | .locked | .locking => (s.moveStation k r.backState).accepts (stationReply k)
    | _ => s.refuses .wrongState

/-- RESET_STATION (R32). -/
def actResetStation (station : Nat) (s : State) : Acted :=
  match stationOf station with
  | none => s.refuses .badValue
  | some k =>
    let r := s.station k
    match r.state with
    | .quarantined | .fault =>
      ((s.setStation k { r with failRun := 0 }).moveStation k r.backState).accepts (stationReply k)
    | _ => s.refuses .wrongState

/-- Is station `k` the active station of its owner code (R36)? -/
def State.isActiveStation (s : State) (k : Fin 80) : Bool :=
  match (s.station k).owner with
  | some n => s.activeStation n = some k
  | none => false

/-- A station record on the link, in the order of R23. -/
def stationBytes (k : Fin 80) (r : Station) : List Byte :=
  u8 k.val ++ opt u16 r.owner ++ u8 r.state.num ++ u16 r.reel ++ u16 r.load ++ u16 r.low ++ yn r.lowArmed
    ++ yn r.underrun ++ u8 r.failRun ++ u8 r.pending ++ yn r.tape

/-- READ_STATION (R36). -/
def actReadStation (station : Nat) (s : State) : Acted :=
  match stationOf station with
  | none => s.refuses .badValue
  | some k =>
    s.answers (stationBytes k (s.station k) ++ u8 ((s.stations.groupOf k.val).elim 4 Fin.val)
      ++ u8 (s.stations.classOf k.val).num ++ yn (s.isActiveStation k))

/-- The settings of one of the groups 0..3 on the link (R37, R38): enable, base, mask, class. -/
def groupBytes (g : StationGroup) : List Byte := yn g.enabled ++ u8 g.base ++ u8 g.mask ++ u8 g.cls.num

/-- SET_STATION_GROUP (R38). A non-zero enable byte is yes (DESIGN CHOICE, assumption log 15). The settings of the default group
are its class alone (R37; DEDUCED, assumption log 14). -/
def actSetStationGroup (group enable base mask cls : Nat) (s : State) : Acted :=
  if s.working then s.refuses .wrongState
  else
    match AlarmClass.ofNum cls with
    | none => s.refuses .badValue
    | some c =>
      if h : group < 4 then
        if base > 0x7F ∨ mask > 0x7F then s.refuses .badValue
        else
          let g : StationGroup := { enabled := decide (enable ≠ 0), base := base, mask := mask, cls := c }
          ({ s with stations := { s.stations with groups := vset s.stations.groups ⟨group, h⟩ g } } : State).answers
            (groupBytes g)
      else if group = 4 then
        ({ s with stations := { s.stations with defaultClass := c } } : State).answers
          (u8 c.num)
      else s.refuses .badValue

/-! ## The code table (R40 to R43) -/

/-- The four station bytes of a code definition, cut at its list length (R202). -/
def listedStations (f : CodeFields) : List Nat := [f.st0, f.st1, f.st2, f.st3].take f.length

/-- The stations of a definition: each at most 79 and none named twice (R41). -/
def codeStations (f : CodeFields) : Option (List (Fin 80)) :=
  let l := listedStations f
  if within 1 4 f.length = true ∧ l.Nodup then l.mapM stationOf else none

/-- The record of a code definition, before its active station is selected: every field in its range, or none
(R40, R41 check 1). -/
def codeRecord? (f : CodeFields) : Option CodeRecord :=
  match codeStations f, ClinchMode.ofNum f.clinch, VerifyKind.ofNum f.kind with
  | some l, some clinch, some kind =>
    if within 1 9999 f.number && within 50 260 f.span && decide (f.remake ≤ 3) && within 1 9999 f.m
        && withinInt (-12) 7 f.e && decide (f.tl ≤ 500) && decide (f.th ≤ 500) then
      some { number := f.number, stations := l, active := 0, starved := true, span := f.span, clinch := clinch,
             remake := f.remake, spec := { kind := kind, m := f.m, e := f.e, tl := f.tl, th := f.th } }
    else none
  | _, _, _ => none

/-- The loaded program references a code: an INSERT step names it (R60). -/
def State.references (s : State) (code : Nat) : Bool :=
  match s.programs.store with
  | .loaded _ steps _ _ => steps.any fun r => r.kind = 1 && r.code = code
  | _ => false

/-- A board is in either slot. -/
def State.boardPresent (s : State) : Bool := s.boards.active.isSome || s.boards.next.isSome

/-- The first listed station that another code owns (R41 check 3); that it is the first in list order which a refusal
carries is the model's choice (DESIGN CHOICE, assumption log 32). -/
def State.takenStation (s : State) (number : Nat) (l : List (Fin 80)) : Option (Fin 80) :=
  l.find? fun k => (s.station k).owner.any fun o => o ≠ number

/-- The selection at definition: the first listed station that is READY, or starved at index 0 (R41). -/
def State.selectFirst (s : State) (c : CodeRecord) : CodeRecord :=
  match c.stations.findIdx? fun k => (s.station k).state = .ready with
  | some i => { c with active := i, starved := false }
  | none => { c with active := 0, starved := true }

/-- The code table with a record put in its place, in rising order of number (R40). -/
def insertCode (c : CodeRecord) : List CodeRecord → List CodeRecord
  | [] => [c]
  | d :: l => if c.number < d.number then c :: d :: l else if c.number = d.number then c :: l else d :: insertCode c l

/-- The owner of one station after a code has taken a list (R41). -/
def Station.owned (r : Station) (k : Fin 80) (number : Nat) (l : List (Fin 80)) : Station :=
  if k ∈ l then { r with owner := some number }
  else if r.owner = some number then { r with owner := none } else r

/-- The owner of the stations that a code's list drops becomes absent, and that of the listed ones the code (R40, R41,
R42). -/
def State.setOwners (s : State) (number : Nat) (l : List (Fin 80)) : State :=
  { s with stations := { s.stations with recs := Vector.ofFn fun k => (vget s.stations.recs k).owned k number l } }

/-- DEFINE_CODE (R41). -/
def actDefineCode (f : CodeFields) (s : State) : Acted :=
  match codeRecord? f with
  | none => s.refuses .badValue
  | some c0 =>
    if (s.code? c0.number).isSome && s.references c0.number && s.boardPresent then s.refuses .inUse
    else
      match s.takenStation c0.number c0.stations with
      | some k => s.refuses .stationTaken (u8 k.val)
      | none =>
        let c := s.selectFirst c0
        let s1 := s.setOwners c.number c.stations
        ({ s1 with stations := { s1.stations with codes := insertCode c s1.stations.codes } } : State).accepts
          fun _ => opt (fun k => u8 k.val) c.activeStation ++ yn c.starved

/-- REMOVE_CODE (R42). -/
def actRemoveCode (code : Nat) (s : State) : Acted :=
  if !within 1 9999 code then s.refuses .badValue
  else if (s.code? code).isNone then s.refuses .notFound
  else if s.references code then s.refuses .inUse
  else
    let s1 := s.setOwners code []
    ({ s1 with stations := { s1.stations with
        codes := s1.stations.codes.filter fun c => c.number ≠ code } } : State).accepts

/-- The four station bytes of a code record on the link; the bytes beyond the list length are unstated (R202,
DESIGN CHOICE, assumption log 10). -/
def codeStationBytes (c : CodeRecord) (drawn : Nat) : List Byte :=
  (List.range 4).map fun i =>
    match c.stations[i]? with
    | some k => BitVec.ofNat 8 k.val
    | none => Config.padByte drawn i

/-- The 19 bytes of a code record (R202). -/
def codeBytes (c : CodeRecord) (drawn : Nat) : List Byte :=
  u16 c.number ++ u8 c.stations.length ++ codeStationBytes c drawn ++ u16 c.span ++ u8 c.clinch.num ++ u8 c.remake
    ++ c.spec.bytes

/-- READ_CODE (R43). -/
def actReadCode (code : Nat) (s : State) : Acted :=
  if !within 1 9999 code then s.refuses .badValue
  else
    match s.code? code with
    | none => s.refuses .notFound
    | some c =>
      (if c.stations.length < 4 then s.draw else s).answers
        (codeBytes c s.drawn ++ opt (fun k => u8 k.val) c.activeStation
          ++ counted (fun k => u8 (s.station k).state.num) c.stations)

end Sys2Proof.Machine
end

