-- ==== Sys2Proof/Machine/Programs.lean ====
section
/-! DEFINITION. The program store (chapter 3): the load protocol, validation and resolution, and the owner's actions of
the program commands. -/

namespace Sys2Proof.Machine

/-- The store takes new contents; PGS tells ALC when it enters or leaves LOADED (R46). -/
def State.setStore (s : State) (st : Store) (o : ProgramOutcome) : State :=
  ({ s with programs := { store := st, outcome := o } } : State).noticeProgram st.isLoaded

/-! ## Loading (R47, R48, R59) -/

/-- PROGRAM_BEGIN (R47). The catalogue permits no payload of more than 16 offsets (R199). -/
def actProgramBegin (product steps images order : Nat) (offsets : List (Nat × Nat)) (s : State) : Acted :=
  if offsets.length ≠ images ∨ 16 < offsets.length then s.refuses .badLength
  else
    match ListOrder.ofNum order with
    | none => s.refuses .badValue
    | some o =>
      if !within 1 1024 steps || !within 1 16 images || offsets.any fun p => p.1 > 60000 || p.2 > 60000 then
        s.refuses .badValue
      else if s.working then s.refuses .wrongState
      else if s.boardPresent then s.refuses .inUse
      else
        let h : Header := { product := product, steps := steps, images := images, order := o, offsets := offsets }
        (s.setStore (.receiving h []) .none).accepts

/-- An INSERT record that PROGRAM_STEPS refuses (R48 check 5). -/
def StepRecord.bad (r : StepRecord) : Bool := r.kind = 1 && (r.x > 60000 || r.y > 60000 || r.byte1 > 3)

/-- PROGRAM_STEPS (R48). Of several offending records the first is named (DESIGN CHOICE, assumption log 32). -/
def actProgramSteps (first : Nat) (records : List StepRecord) (s : State) : Acted :=
  let count := s.programs.store.steps.length
  if !within 1 24 records.length then s.refuses .badLength
  else
    match s.programs.store with
    | .receiving h l =>
      if first ≠ count then s.refuses .sequence (u16 count)
      else if h.steps < first + records.length then s.refuses .full (u16 count)
      else
        match records.findIdx? StepRecord.bad with
        | some i => s.refuses .badValue (u16 count ++ u16 (first + i))
        | none =>
          ({ s with programs := { s.programs with store := .receiving h (l ++ records) } } : State).answers
            (u16 (count + records.length))
    | _ => s.refuses .wrongState (u16 count)

/-- PROGRAM_CLEAR (R59). -/
def actProgramClear (s : State) : Acted :=
  if s.working then s.refuses .wrongState
  else if s.boardPresent then s.refuses .inUse
  else (s.setStore .empty s.programs.outcome).accepts

/-! ## Validation (R50, R51) -/

/-- The steps with their indexes, in step order. -/
def indexed (l : List StepRecord) : List (Nat × StepRecord) := l.zipIdx.map fun p => (p.2, p.1)

/-- The index of the last INSERT step (R51). -/
def lastInsert (l : List StepRecord) : Option Nat :=
  ((indexed l).filter fun p => p.2.kind = 1).getLast?.map (·.1)

/-- The value of a modifier lies in the set or range of its kind (R49, R51): SPAN 1, CLINCH 2, DRIVE 3, VERIFY_BYPASS 4,
REMAKE_LIMIT 5 (R202). -/
def modifierValueOk (kind value : Nat) : Bool :=
  match kind with
  | 1 => within 50 260 value
  | 2 => decide (value ≤ 2)
  | 3 => decide (value ≤ 1)
  | 4 => true
  | _ => decide (value ≤ 3)

/-- The first failure of the step pass at one step (R51). -/
def stepFault (defined : Nat → Bool) (last : Option Nat) (i : Nat) (r : StepRecord) : Option ProgramFault :=
  match r.kind with
  | 1 =>
    if !defined r.code then some .unknownCode
    else if r.span ≠ 0 ∧ !within 50 260 r.span then some .spanRange
    else none
  | 2 =>
    if !within 1 5 r.byte1 then some .undefinedStep
    else if !modifierValueOk r.byte1 r.code then some .modifierValue
    else if last.all (· < i) then some .danglingModifier
    else none
  | 3 => none
  | _ => some .undefinedStep

/-- A code number is defined (R51): a number of 0 or above 9999 is not. -/
def State.codeDefined (s : State) (n : Nat) : Bool := within 1 9999 n && (s.code? n).isSome

/-- The failure that ends validation, if any: the four passes in their order (R50, R56). -/
def State.validate (s : State) (h : Header) (l : List StepRecord) : Option ProgramOutcome :=
  if l.length ≠ h.steps then some (.failed .incomplete (some l.length) none)
  else
    match (indexed l).findSome? fun p => (stepFault s.codeDefined (lastInsert l) p.1 p.2).map fun f => (f, p.1) with
    | some (f, i) => some (.failed f (some i) none)
    | none =>
      match travelFailure s.table.geometry h (indexed l) with
      | some (i, image) => some (.failed .outOfTravel (some i) (some image))
      | none => if l.any fun r => r.kind = 1 then none else some (.failed .noInsert none none)

/-! ## Resolution (R52, R53, R54) -/

/-- The pending set of modifiers, at most one value of each kind (R52). -/
structure Modifiers where
  span   : Option Nat := none
  clinch : Option ClinchMode := none
  drive  : Option DriveMode := none
  bypass : Bool := false
  remake : Option Nat := none
  deriving DecidableEq, Repr

/-- A MODIFIER puts its value into the pending set, over any value of its kind (R52). -/
def Modifiers.put (m : Modifiers) (kind value : Nat) : Modifiers :=
  match kind with
  | 1 => { m with span := some value }
  | 2 => { m with clinch := ClinchMode.ofNum value }
  | 3 => { m with drive := some (if value = 1 then .soft else .normal) }
  | 4 => { m with bypass := true }
  | _ => { m with remake := some value }

/-- The resolved insert record of an INSERT step (R53, R54). -/
def resolveInsert (m : Modifiers) (sect i : Nat) (r : StepRecord) : Resolved :=
  { step := i, sect := sect, code := r.code, x := r.x, y := r.y, direction := r.byte1
    span := if r.span ≠ 0 then some r.span else m.span
    clinch := m.clinch, drive := m.drive.getD .normal, bypass := m.bypass, remake := m.remake }

/-- The resolved insert table: the steps in order, with the pending set and the number of barriers met so far (R52,
R53, R54). -/
def resolveFrom (m : Modifiers) (sect : Nat) : List (Nat × StepRecord) → List Resolved
  | [] => []
  | (i, r) :: l =>
    match r.kind with
    | 1 => resolveInsert m sect i r :: resolveFrom {} sect l
    | 2 => resolveFrom (m.put r.byte1 r.code) sect l
    | _ => resolveFrom m (sect + 1) l

/-- The number of BARRIER steps (R54). -/
def barrierCount (l : List StepRecord) : Nat := l.countP fun r => r.kind = 3

/-- PROGRAM_END (R50, R56, R57). -/
def actProgramEnd (s : State) : Acted :=
  match s.programs.store with
  | .receiving h l =>
    match s.validate h l with
    | some o =>
      ((s.setStore .empty o).judge, { code := .programInvalid, items := outcomeBytes o })
    | none =>
      let r := resolveFrom {} 0 (indexed l)
      (s.setStore (.loaded h l r (barrierCount l)) .ok).accepts fun _ => u16 r.length
  | _ => s.refuses .wrongState

/-- READ_PROGRAM (R61). -/
def actReadProgram (s : State) : Acted :=
  s.answers (u8 s.programs.store.num ++ outcomeBytes s.programs.outcome
    ++ opt (fun h => u32 h.product ++ u16 h.steps ++ u8 h.images ++ u8 h.order.num) s.programs.store.header?
    ++ opt (fun _ => u16 s.programs.store.steps.length) s.programs.store.header?
    ++ (match s.programs.store with
        | .loaded _ _ r b => opt (fun _ => u16 r.length ++ u16 b) (some ())
        | _ => opt (fun _ => []) (none : Option Unit))
    ++ yn s.boardPresent)

end Sys2Proof.Machine
end

