-- ==== Sys2Proof/Machine/Boards.lean ====
section
/-! DEFINITION. The board queue (chapter 4): announcement with list construction, the host's dispositions, and the
owner's actions of the board commands. -/

namespace Sys2Proof.Machine

/-! ## Announcement (R64, R65, R66) -/

/-- The good images of a mask, in ascending order; bits at or above the image count are ignored (R64). -/
def goodImages (mask images : Nat) : List Nat := (List.range images).filter fun i => mask.testBit i

/-- An entry of the list: what resolution left to the code is taken from the code record in force (R53, R66). -/
def buildEntry (s : State) (image : Nat) (r : Resolved) : Entry :=
  let c := s.code? r.code
  { image := image, step := r.step, sect := r.sect, code := r.code
    span := r.span.getD ((c.map (·.span)).getD 0)
    clinch := r.clinch.getD ((c.map (·.clinch)).getD .none)
    drive := r.drive
    verification :=
      if r.bypass then .bypass
      else match c with
        | some c => .check c.spec
        | none => .bypass
    remakeLimit := r.remake.getD ((c.map (·.remake)).getD 0) }

/-- The insertion list in the program's list order (R65). -/
def buildList (s : State) (h : Header) (inserts : List Resolved) (mask : Nat) : List Entry :=
  let images := goodImages mask h.images
  match h.order with
  | .imageMajor => images.flatMap fun i => inserts.map (buildEntry s i)
  | .stepMajor => inserts.flatMap fun r => images.map fun i => buildEntry s i r

/-- ANNOUNCE_BOARD (R64). -/
def actAnnounceBoard (board product mask : Nat) (s : State) : Acted :=
  match s.programs.store with
  | .loaded h _ inserts _ =>
    if product ≠ h.product then s.refuses .wrongProduct
    else if goodImages mask h.images = [] then s.refuses .badValue
    else
      let l := buildList s h inserts mask
      let b : Board := { id := board, product := product, mask := mask, entries := l }
      match s.boards.active, s.boards.next with
      | some _, some _ => s.refuses .full
      | some a, none =>
        if a.id = board then s.refuses .duplicate
        else
          ({ s with boards := { s.boards with next := some b } } : State).accepts fun _ => u8 1 ++ u16 l.length
      | none, n =>
        if n.any fun n => n.id = board then s.refuses .duplicate
        else
          ({ s with boards := { s.boards with active := some b } } : State).accepts fun _ => u8 0 ++ u16 l.length
  | _ => s.refuses .noProgram

/-! ## Host dispositions (R73, R74, R75) -/

/-- The reference of the entry for an image and a step (section 4.8). -/
def Board.find (b : Board) (image step : Nat) : Option EntryRef :=
  (b.entries.findIdx? fun e => e.image = image && e.step = step).map fun i => { board := b.id, index := i }

/-- An orphan request (R8): a FIRED, LOADED or VERIFIED pocket becomes ORPHAN with the cause. -/
def State.orphan (s : State) (p : Fin 128) (cause : PocketCause) : State :=
  let k := s.pocket p
  match k.state with
  | .fired | .loaded | .verified => s.setPocket p (k.orphaned cause)
  | _ => s

/-- What becomes of the pocket of an entry that is given up by the host: withdrawn or orphaned (R73, R75). -/
def State.releasePocket (s : State) (e : Entry) (cause : PocketCause) : State :=
  match e.pocket with
  | none => s
  | some p =>
    match e.status with
    | .assigned => s.withdraw p
    | .fired | .loaded | .verified => s.orphan p cause
    | _ => s

/-- The board with this id is the ACTIVE one. -/
def State.isActive (s : State) (id : Nat) : Bool := s.boards.active.any fun b => b.id = id

/-- The ACTIVE board is fenced (R71). -/
def State.activeFenced (s : State) : Bool := s.boards.active.any fun b => b.fenced

/-- The items of a disposition's reply: list index, status before and status after (section 4.8). -/
def dispositionItems (ref : EntryRef) (before after : EntryStatus) : List Byte :=
  u16 ref.index ++ u8 before.num ++ u8 after.num

/-- The checks that SKIP_STEP and DISPOSE_STEP share, and the entry they name (section 4.8). -/
def State.named (s : State) (board image step : Nat) : Except ResultCode (EntryRef × Entry) :=
  if image > 15 ∨ step > 1023 then .error .badValue
  else
    match s.board? board with
    | none => .error .notFound
    | some b =>
      match b.find image step with
      | none => .error .notFound
      | some ref =>
        match b.entries[ref.index]? with
        | some e => .ok (ref, e)
        | none => .error .notFound

/-- The entry is given up as SKIPPED (R73). -/
def State.skipEntry (s : State) (ref : EntryRef) (e : Entry) : State :=
  let s1 := s.releasePocket e .skipped
  let s2 := s1.modifyEntry ref fun e => e.close .skipped none
  { s2 with boards := { s2.boards with queue := s2.boards.queue.filter fun r => r ≠ ref } }

/-- SKIP_STEP (R73). -/
def actSkipStep (board image step : Nat) (s : State) : Acted :=
  match s.named board image step with
  | .error code => s.refuses code
  | .ok (ref, e) =>
    match e.status with
    | .pending =>
      if s.isActive board || s.activeFenced then
        (s.skipEntry ref e).accepts fun _ => dispositionItems ref e.status .skipped
      else s.refuses .wrongState
    | .queued | .assigned | .fired | .loaded | .verified =>
      (s.skipEntry ref e).accepts fun _ => dispositionItems ref e.status .skipped
    | .inHead => s.refuses .busy
    | _ => s.refuses .wrongState

/-- The board of an entry is fenced (R71, R74). -/
def State.fencedBoard (s : State) (id : Nat) : Bool := (s.board? id).any fun b => b.fenced

/-- A REMAKE: QUEUED at the tail, with the host-remake mark (R74, R82). -/
def State.remakeEntry (s : State) (ref : EntryRef) : State :=
  let s1 := s.modifyEntry ref fun e =>
    { e with status := .queued, cause := none, remakes := min 3 (e.remakes + 1), hostRemake := true }
  { s1 with boards := { s1.boards with queue := s1.boards.queue ++ [ref] } }

/-- DISPOSE_STEP (R74): ACCEPT 0, REMAKE 1. -/
def actDisposeStep (board image step disposition : Nat) (s : State) : Acted :=
  match s.named board image step with
  | .error code => s.refuses code
  | .ok (ref, e) =>
    if disposition > 1 then s.refuses .badValue
    else if e.status ≠ .failedOpen then s.refuses .wrongState
    else if disposition = 0 then
      (s.modifyEntry ref fun e => e.close .failed e.cause).accepts fun _ => dispositionItems ref e.status .failed
    else if s.fencedBoard board then s.refuses .fenced
    else if s.entriesInWork = 128 then s.refuses .full
    else (s.remakeEntry ref).accepts fun _ => dispositionItems ref e.status .queued

/-- The discard notice at HDC (R75, R149): an entry held of the board becomes an unowned component. -/
def State.discardNotice (s : State) (id : Nat) : State :=
  match s.head.held with
  | some h => if h.ref.board = id then { s with head := { s.head with held := none, unowned := true } } else s
  | none => s

/-- An entry of an abandoned board: MISSED with cause ABANDONED unless it is terminal (R75). -/
def Entry.abandon (e : Entry) : Entry := if e.status.terminal then e else e.close .missed (some .abandoned)

/-- What ABANDON_BOARD does to a board, its pockets, the return queue and the head (R75). -/
def State.abandonEntries (s : State) (b : Board) : State :=
  let s1 := b.entries.foldl (fun s e => s.releasePocket e .abandoned) s
  let s2 := s1.modifyBoard b.id fun b => { b with abandoned := true, entries := b.entries.map Entry.abandon }
  let s3 : State :=
    { s2 with boards := { s2.boards with queue := s2.boards.queue.filter fun r => r.board ≠ b.id } }
  s3.discardNotice b.id

/-- ABANDON_BOARD (R75). -/
def actAbandonBoard (board : Nat) (s : State) : Acted :=
  match s.line with
  | .held | .ready | .stopped =>
    match s.board? board with
    | none => s.refuses .notFound
    | some b =>
      let s1 := s.abandonEntries b
      let s2 := if s.isActive board then s1 else s1.removeNext
      s2.accepts fun _ => u16 (b.entries.countP fun e => !e.status.terminal)
  | _ => s.refuses .wrongState

/-! ## Reading a board (R79) -/

/-- The thirteen statuses in the order of R67. -/
def allStatuses : List EntryStatus :=
  [.pending, .queued, .assigned, .fired, .loaded, .verified, .inHead, .failedOpen, .inserted, .unclinched, .failed,
   .missed, .skipped]

/-- A board record without its list (R63, R79). -/
def Board.bytes (b : Board) : List Byte :=
  u32 b.id ++ u32 b.product ++ u16 b.mask ++ u16 b.entries.length ++ yn b.fenced ++ u8 b.phase.num ++ yn b.abandoned
    ++ yn b.completing

/-- The verification field on the link: BYPASS 0, or 1 and the verify spec (R66). -/
def Verification.bytes : Verification → List Byte
  | .bypass => u8 0
  | .check v => u8 1 ++ v.bytes

/-- An entry record on the link, in the order of R66. -/
def Entry.bytes (i : Nat) (e : Entry) : List Byte :=
  u16 i ++ u8 e.image ++ u16 e.step ++ u16 e.sect ++ u16 e.code ++ u16 e.span ++ u8 e.clinch.num ++ u8 e.drive.num
    ++ e.verification.bytes ++ u8 e.remakeLimit ++ u8 e.status.num ++ u8 e.remakes
    ++ opt (fun p => u8 p.val) e.pocket ++ opt (fun c => u8 c.num) e.cause ++ yn e.unclinched ++ yn e.hostRemake

/-- The items of READ_BOARD for a board (R79). -/
def State.boardItems (s : State) (b : Board) : List Byte :=
  b.bytes ++ allStatuses.flatMap (fun st => u16 (b.count st)) ++ u16 b.marked ++ u8 s.boards.queue.length
    ++ u8 (s.boards.queue.countP fun r => r.board = b.id)

/-- The place of an entry in the return queue, counted from the head as 0 (R79). -/
def State.queuePlace (s : State) (ref : EntryRef) : Option Nat := s.boards.queue.findIdx? fun r => r = ref

/-- READ_BOARD (R79): slot ACTIVE 0, NEXT 1. -/
def actReadBoard (slot : Nat) (index : Option Nat) (s : State) : Acted :=
  if slot > 1 then s.refuses .badValue
  else
    match if slot = 0 then s.boards.active else s.boards.next with
    | none => s.refuses .notFound
    | some b =>
      match index with
      | none => s.answers (s.boardItems b)
      | some i =>
        match b.entries[i]? with
        | none => s.refuses .badValue
        | some e =>
          s.answers (s.boardItems b ++ e.bytes i
            ++ (if e.status = .queued then opt u8 (s.queuePlace { board := b.id, index := i }) else opt u8 none))

end Sys2Proof.Machine
end

