-- ==== Sys2Proof/Machine/Dispense.lean ====
section
/-! DEFINITION. Dispensing (chapter 5): assignment, fires and dwells, and the owner's actions of SET_FIRE_DWELL and
READ_ASSIGNMENT. -/

namespace Sys2Proof.Machine

/-- A notice that moves an entry from the status it expects; an entry in another status is left as it is (R68). -/
def State.moveEntry (s : State) (ref : EntryRef) (old new : EntryStatus) : State :=
  s.modifyEntry ref fun e => if e.status = old then { e with status := new } else e

/-! ## Assignment (R4, R87, R88) -/

/-- The fence: set on the ACTIVE board when an entry of the NEXT board is assigned (R71, R88). -/
def State.fence (s : State) (ref : EntryRef) : State :=
  if s.isActive ref.board then s
  else { s with boards := { s.boards with active := s.boards.active.map fun b => { b with fenced := true } } }

/-- The assignment of pocket `p`, which stands at entry, to an entry and a station, taken by CHT (R88). From now until the next
index completion the pocket at entry is one that has been assigned there (R87). -/
def State.assign (s : State) (p : Fin 128) (ref : EntryRef) (src : CandidateSource) (k : Fin 80) : State :=
  let s0 := s.setPocket p { state := .assigned, entry := some ref, station := some k }
  let s1 : State := { s0 with chain := { s0.chain with entryTaken := true } }
  let s2 := s1.modifyEntry ref fun e => { e with status := .assigned, pocket := some p }
  let s3 := s2.setStation k { s2.station k with pending := (s2.station k).pending + 1 }
  let s4 : State :=
    if src = .queue then { s3 with boards := { s3.boards with queue := s3.boards.queue.tail } } else s3
  let s5 := s4.fence ref
  if s5.starved.any fun w => w.entry = ref then { s5 with starved := none } else s5

/-- ASG's assignment request for the pocket named (R87), judged by CHT (R4): refused, and nothing changes, when the
pocket named does not stand at entry or is not EMPTY. A pocket that has been assigned while it stands at entry is not
requested again there: withdrawn, it travels on EMPTY as a gap (R87, R95). -/
def State.requestAssignment (s : State) (p : Fin 128) : State :=
  if s.assignmentDue && s.positionOf p = 0 then
    match s.candidate with
    | none => s
    | some (ref, src) =>
      match s.activeStation (s.codeOf ref) with
      | none => s
      | some k => s.assign p ref src k
  else s

/-- The row ASSIGNMENT. -/
def execAssignment (pocket : Fin 128) (s : State) : Host.Outcome State Fault Refusal :=
  .next (s.requestAssignment pocket).judge

/-! ## Fires (R26, R27, R90, R92) -/

/-- What a fire counts on its station's record (R26): the pending-fire count, the reel, underrun, the lock. -/
def Station.countFire (r : Station) : Station :=
  { r with
    pending := r.pending - 1
    reel := r.reel - 1
    underrun := r.underrun || r.reel = 0
    state := if r.state = .locking ∧ r.pending - 1 = 0 then .locked else r.state }

/-- A fire makes the reel count equal to an armed non-zero low threshold (R27). -/
def Station.reachesLow (r : Station) : Bool :=
  decide (0 < r.reel) && decide (r.reel - 1 = r.low) && decide (r.low ≠ 0) && r.lowArmed

/-- The fire of station `k` into pocket `p` (R90). -/
def State.fireInto (s : State) (k : Fin 80) (p : Fin 128) : State :=
  let v := s.pocket p
  let s1 := s.setPocket p { v with state := .fired }
  let s2 := match v.entry with
    | some ref => s1.moveEntry ref .assigned .fired
    | none => s1
  let r := s.station k
  let s3 := s2.setStation k { r.countFire with lowArmed := r.lowArmed && !r.reachesLow }
  let s4 := s3.setFireUnit k { output := true, dwell := some s.stations.dwellLength }
  if r.reachesLow then
    s4.raise .reelLow .warn { station := some k.val, code := r.owner, detail := r.reel - 1 }
  else s4

/-- A fire, taken when it is due (R90). -/
def State.fire (s : State) (k : Fin 80) : State :=
  if s.fireDue k then s.fireInto k (s.pocketAt (stationPosition k)) else s

/-- The fires that an index completion or the entry into RUNNING or HOLDING makes due, each taken by its own station, in the
order of the station numbers (R90, R91, R94; that order: DESIGN CHOICE, assumption log 37). -/
def State.fireAll (s : State) : State := (List.finRange 80).foldl State.fire s

/-- The row FIRE. -/
def execFire (station : Fin 80) (s : State) : Host.Outcome State Fault Refusal := .next (s.fire station).judge

/-- The end of a fire dwell whose length has run (R92). -/
def State.endDwell (s : State) (k : Fin 80) : State :=
  if (s.fireUnit k).dwell = some 0 then s.setFireUnit k {} else s

/-- The row FIRE_DWELL_END. -/
def execFireDwellEnd (station : Fin 80) (s : State) : Host.Outcome State Fault Refusal :=
  .next (s.endDwell station).judge

/-- The release of every fire output at the emergency stop; the dwells run on (R92). -/
def State.releaseFires (s : State) : State :=
  { s with stations := { s.stations with fires := vmap (fun f => { f with output := false }) s.stations.fires } }

/-! ## Commands -/

/-- SET_FIRE_DWELL (R93). -/
def actSetFireDwell (dwell : Nat) (s : State) : Acted :=
  if within 4 30 dwell then
    ({ s with stations := { s.stations with dwellLength := dwell } } : State).answers (u8 dwell)
  else s.refuses .badValue

/-- The candidate on the link (R101). -/
def State.candidateBytes (s : State) (c : EntryRef × CandidateSource) : List Byte :=
  let e := s.entry? c.1
  c.1.bytes ++ u8 ((e.map (·.image)).getD 0) ++ u16 ((e.map (·.step)).getD 0) ++ u16 (s.codeOf c.1) ++ u8 c.2.num

/-- The wait on the link: NONE 0, BARRIER 1, STARVED 2 (R80). -/
def CandidateWait.num : CandidateWait → Nat
  | .none => 0 | .barrier => 1 | .starved => 2

/-- The blocking entries on the link, present with wait BARRIER: their number and the lowest list index (R101). -/
def State.blockingBytes (s : State) : List Byte :=
  let l := match s.candidate with
    | some (ref, _) => s.blocking ref
    | none => []
  opt (fun i => u16 l.length ++ u16 i) l.head?

/-- READ_ASSIGNMENT (R101). -/
def actReadAssignment (s : State) : Acted :=
  s.answers (yn s.assignmentOpen ++ opt s.candidateBytes s.candidate ++ u8 s.wait.num ++ s.blockingBytes
    ++ opt (fun w => w.entry.bytes ++ u16 w.code) s.starved ++ u8 s.stations.dwellLength ++ u8 s.firesDue
    ++ u8 s.dwellsRunning)

end Sys2Proof.Machine
end

