-- ==== Sys2Proof/Machine/Verify.lean ====
section
/-! DEFINITION. Component verification (chapter 6): normalisation, the judging of readings, the start and the completion
of a measurement, and the owner's actions of SET_FAIL_THRESHOLD and READ_VERIFIER. -/

namespace Sys2Proof.Machine

/-! ## Normalisation and judging (R103 to R108) -/

/-- The number of decimal digits of a mantissa of 1..9999 (R103). -/
def digits (m : Nat) : Nat := if m < 10 then 1 else if m < 100 then 2 else if m < 1000 then 3 else 4

/-- The normalised mantissa M = m × 10^(4 − d) (R103). -/
def VerifySpec.mant (v : VerifySpec) : Nat := v.m * 10 ^ (4 - digits v.m)

/-- The normalised exponent E = e − (4 − d) (R103). -/
def VerifySpec.expo (v : VerifySpec) : Int := v.e - (4 - digits v.m : Nat)

/-- The duration of a measurement in ms (R106). -/
def VerifySpec.duration (v : VerifySpec) : Nat :=
  match v.kind with
  | .none => 0
  | .res => 4
  | .cap => if v.expo ≤ -10 then 6 else 25
  | .diode => 8
  | .link => 3

/-- The exponent of the range the front end is set to: E, or −4 for a LINK (R104, R107). -/
def VerifySpec.rangeExp (v : VerifySpec) : Int := if v.kind = .link then -4 else v.expo

/-- The comparison of a converter count with the band (R104, R105). -/
def judgeBand (count mant tl th : Nat) : VerifyResult :=
  if 19999 < count then .overRange
  else if count * 1000 < mant * (1000 - tl) then .low
  else if count * 1000 ≤ mant * (1000 + th) then .pass
  else .high

/-- The judging of a LINK (R107). -/
def judgeLink (count : Nat) : VerifyResult :=
  if 19999 < count then .overRange else if count ≤ 5000 then .pass else .high

/-- The reverse test of a DIODE conducts (R108). -/
def conducts (count mant th : Nat) : Bool := decide (count ≤ 19999) && decide (count * 1000 ≤ mant * (1000 + th))

/-- The result of a measurement from its forward and reverse converter counts (R105, R107, R108). -/
def Measurement.judge (m : Measurement) (forward reverse : Nat) : VerifyResult :=
  match m.kind with
  | .link => judgeLink forward
  | .diode =>
    match judgeBand forward m.mant m.tl m.th with
    | .overRange => if conducts reverse m.mant m.th then .polarity else .overRange
    | r => r
  | _ => judgeBand forward m.mant m.tl m.th

/-- The reading a judgement records: R, the reverse reading for POLARITY, absent for OVER (R109). -/
def readingOf (r : VerifyResult) (forward reverse : Nat) : Option Nat :=
  match r with
  | .overRange => none
  | .polarity => some reverse
  | _ => some forward

/-! ## The start (R110, R111) -/

/-- The count of a judgement (R109, R111 to R115). -/
def JudgementCounts.count (c : JudgementCounts) : Judged → JudgementCounts
  | .notMeasured => { c with notMeasured := wrapInc c.notMeasured }
  | .measured .pass => { c with pass := wrapInc c.pass }
  | .measured .low => { c with low := wrapInc c.low }
  | .measured .high => { c with high := wrapInc c.high }
  | .measured .overRange => { c with overRange := wrapInc c.overRange }
  | .measured .polarity => { c with polarity := wrapInc c.polarity }

/-- The record of a judgement: its count, and the last judgement (R109). -/
def State.recordJudgement (s : State) (j : Judgement) : State :=
  { s with verifier := { s.verifier with last := some j, counts := s.verifier.counts.count j.result } }

/-- A pocket judged not measured (R7, R111). -/
def State.passUnmeasured (s : State) (p : Fin 128) (ref : EntryRef) (k : Fin 80) (code : Nat) (kind : VerifyKind) :
    State :=
  let s1 := s.setPocket p { s.pocket p with state := .verified, result := none }
  let s2 := s1.moveEntry ref .loaded .verified
  s2.recordJudgement
    { pocket := p, entry := ref, station := k, code := code, kind := kind, result := .notMeasured, reading := none,
      time := s.clock }

/-- The measurement of a spec for a pocket and its entry (R110). For a LINK, whose measurement uses neither, M and E are those
of the normalised spec too (DESIGN CHOICE, assumption log 33). -/
def measurementOf (v : VerifySpec) (p : Fin 128) (ref : EntryRef) (k : Fin 80) (code : Nat) : Measurement :=
  { pocket := p, entry := ref, station := k, code := code, kind := v.kind, mant := v.mant, expo := v.expo, tl := v.tl
    th := v.th, duration := v.duration, remaining := v.duration }

/-- The start of a measurement that is due, or the judgement of a pocket that is not measured (R110). It is taken in the event
that makes the measurement due: an index completion, or the entry into RUNNING or HOLDING. The kind recorded for a BYPASS,
which has no spec, is NONE (DESIGN CHOICE, assumption log 34). -/
def State.startMeasurement (s : State) : State :=
  let p := s.pocketAt 88
  if s.verifyWanted && s.verifier.flight.isNone then
    match (s.pocket p).entry, (s.pocket p).station with
    | some ref, some k =>
      match s.entry? ref with
      | none => s
      | some e =>
        match e.verification with
        | .bypass => s.passUnmeasured p ref k e.code .none
        | .check v =>
          if v.kind = .none then s.passUnmeasured p ref k e.code .none
          else { s with verifier := { s.verifier with
            flight := some (measurementOf v p ref k e.code), contacts := true, range := some v.rangeExp } }
    | _, _ => s
  else s

/-- The row MEASUREMENT_START. -/
def execMeasurementStart (s : State) : Host.Outcome State Fault Refusal := .next s.startMeasurement.judge

/-! ## The completion (R112, R113, R115) -/

/-- The result numbers of a VERIFY_REJECT detail (R113). -/
def rejectNumber : VerifyResult → Nat
  | .low => 1 | .high => 2 | .overRange => 3 | .polarity => 4 | .pass => 0

/-- The VERIFY_REJECT raise (R113). -/
def State.raiseReject (s : State) (m : Measurement) (r : VerifyResult) (reading : Option Nat) : State :=
  s.raise .verifyReject .warn
    { board := some m.entry.board, index := some m.entry.index, pocket := some m.pocket.val,
      station := some m.station.val, code := some m.code,
      detail := rejectNumber r * 100000 + (reading.getD 0) }

/-- Three parts of one event in one of their six orders (R96, R113). -/
def inOrder3 (n : Nat) (a b c : State → State) (s : State) : State :=
  match n with
  | 0 => c (b (a s))
  | 1 => b (c (a s))
  | 2 => c (a (b s))
  | 3 => a (c (b s))
  | 4 => b (a (c s))
  | _ => a (b (c s))

/-- The effects of a rejecting judgement on a LOADED pocket (R113): the pocket, then the fall-back, the fail notice
and the raise in an order R96 and R113 leave open. -/
def State.rejectPocket (s : State) (m : Measurement) (r : VerifyResult) (reading : Option Nat) : State :=
  let s1 := s.setPocket m.pocket { state := .rejected, result := some r, cause := some .verify }
  inOrder3 (s.freeOrder 6)
    (fun s => s.fallBack m.entry true (some m.station))
    (fun s => s.failNotice m.station)
    (fun s => s.raiseReject m r reading) s1.draw

/-- The effects of a PASS on a LOADED pocket (R112). -/
def State.passPocket (s : State) (m : Measurement) : State :=
  let s1 := s.setPocket m.pocket { s.pocket m.pocket with state := .verified, result := some .pass }
  (s1.moveEntry m.entry .loaded .verified).passNotice m.station

/-- The verifier when a measurement ends: IDLE, contacts open, front end idle (R110). -/
def Verifier.release (v : Verifier) : Verifier := { v with flight := none, contacts := false, range := none }

/-- What a judgement does to the pocket measured (R7, R112, R113, R115). -/
def State.judgePocket (s : State) (m : Measurement) (r : VerifyResult) (reading : Option Nat) : State :=
  match (s.pocket m.pocket).state, r with
  | .loaded, .pass => s.passPocket m
  | .loaded, r => s.rejectPocket m r reading
  | .orphan, r => s.setPocket m.pocket { s.pocket m.pocket with result := some r }
  | _, _ => s

/-- The completion of the measurement whose duration has passed (R112, R113, R115). -/
def State.completeMeasurement (s : State) (forward reverse : Nat) : State :=
  match s.verifier.flight with
  | none => s
  | some m =>
    if m.remaining = 0 then
      let r := m.judge forward reverse
      let reading := readingOf r forward reverse
      let s1 := State.recordJudgement { s with verifier := s.verifier.release }
        { pocket := m.pocket, entry := m.entry, station := m.station, code := m.code, kind := m.kind,
          result := .measured r, reading := reading, time := s.clock }
      s1.judgePocket m r reading
    else s

/-- The row MEASUREMENT_COMPLETION, with the converter counts of the two readings. -/
def execMeasurementCompletion (forward reverse : Nat) (s : State) : Host.Outcome State Fault Refusal :=
  .next (s.completeMeasurement forward reverse).judge

/-! ## Commands -/

/-- SET_FAIL_THRESHOLD (R117). -/
def actSetFailThreshold (threshold : Nat) (s : State) : Acted :=
  if within 1 15 threshold then
    ({ s with verifier := { s.verifier with threshold := threshold } } : State).answers (u8 threshold)
  else s.refuses .badValue

/-- The measurement in flight on the link, each field present or absent (R109, R118). -/
def flightBytes (m : Option Measurement) : List Byte :=
  opt (fun m => u8 m.pocket.val) m ++ opt (fun m => m.entry.bytes) m ++ opt (fun m => u8 m.station.val) m
    ++ opt (fun m => u16 m.code) m ++ opt (fun m => u8 m.kind.num) m ++ opt (fun m => u16 m.mant) m
    ++ opt (fun m => i8 m.expo) m ++ opt (fun m => u16 m.tl) m ++ opt (fun m => u16 m.th) m
    ++ opt (fun m => u8 m.duration) m

/-- The results in the order of the counts, with not measured 5 (R109). -/
def Judged.num : Judged → Nat
  | .measured r => r.num
  | .notMeasured => 5

/-- The last judgement on the link (R109). -/
def Judgement.bytes (j : Judgement) : List Byte :=
  u8 j.pocket.val ++ j.entry.bytes ++ u8 j.station.val ++ u16 j.code ++ u8 j.kind.num ++ u8 j.result.num
    ++ opt u16 j.reading ++ u32 j.time

/-- The seven judgement counts on the link (R109). -/
def JudgementCounts.bytes (c : JudgementCounts) : List Byte :=
  u32 c.pass ++ u32 c.low ++ u32 c.high ++ u32 c.overRange ++ u32 c.polarity ++ u32 c.notMeasured ++ u32 c.abandoned

/-- READ_VERIFIER (R118). -/
def actReadVerifier (s : State) : Acted :=
  s.answers (u8 (if s.verifier.flight.isSome then 1 else 0) ++ flightBytes s.verifier.flight
    ++ opt Judgement.bytes s.verifier.last ++ u8 s.verifier.threshold ++ s.verifier.counts.bytes)

end Sys2Proof.Machine
end

