-- ==== Sys2Proof/Machine/ChainOps.lean ====
section
/-! DEFINITION. The sequence chain (chapter 1): the index, the presence check, the gate stroke, their jams, and the
owner's actions of READ_CHAIN and READ_POCKET. -/

namespace Sys2Proof.Machine

/-- The remaining time of a RUNNING watch has reached 0 (R173). -/
def State.expiring (s : State) (w : WatchId) : Bool := (s.watch w).state = .running && (s.watch w).remaining = 0

/-- The expiry of a watch (R173). -/
def State.expire (s : State) (w : WatchId) : State := s.setWatch w { state := .expired, remaining := 0 }

/-! ## The index (R11 to R14) -/

/-- The drive energised and the CHAIN watch started: a request (R11) or a restart (R14). -/
def State.driveIndex (s : State) : State :=
  State.startWatch { s with chain := { s.chain with index := .inFlight, indexDrive := true } } .chain
    (s.timeout .chain)

/-- An index request, made when it is due (R11). -/
def State.requestIndex (s : State) : State := if s.indexDue then s.driveIndex else s

/-- The row INDEX_REQUEST. -/
def execIndexRequest (s : State) : Host.Outcome State Fault Refusal := .next s.requestIndex.judge

/-- The two notices of a misfeed, to STC and to BDQ, in an order R16 and R96 leave open. -/
def State.misfeedNotices (s : State) (v : Pocket) : State :=
  let toStc (s : State) : State := v.station.elim s s.misfeed
  let toBdq (s : State) : State := v.entry.elim s fun ref => s.fallBack ref true v.station
  if s.freeOrder 2 = 0 then toStc (toBdq s.draw) else toBdq (toStc s.draw)

/-- The presence check of the pocket at 84 (R15, R16). -/
def State.checkPresence (s : State) (seen : Bool) : State :=
  let p := s.pocketAt 84
  let v := s.pocket p
  match v.state, seen with
  | .fired, true =>
    let s1 := s.setPocket p { v with state := .loaded }
    v.entry.elim s1 fun ref => s1.moveEntry ref .fired .loaded
  | .fired, false => (s.setPocket p Pocket.emptied).misfeedNotices v
  | .empty, true =>
    State.draw ((s.setPocket p { state := .orphan, cause := some .stray }).raise .strayPart .warn
      { pocket := some p.val, detail := s.freeDetail })
  | .orphan, false => s.setPocket p Pocket.emptied
  | _, _ => s

/-- What an index completion does at 84 and at the stations: the presence check, and the fires it makes due. R33 lets a fire
come before or after the withdrawal of its station that a misfeed found by the same completion brings, so which of the two
comes first is free (DESIGN CHOICE, assumption log 8). -/
def State.checkAndFire (s : State) (seen : Bool) : State :=
  if s.freeOrder 2 = 0 then (s.draw.fireAll).checkPresence seen else (s.draw.checkPresence seen).fireAll

/-- An index completion: C advances, a pocket not yet assigned there comes to entry (R87), the drive is released, the CHAIN watch stops, the presence is judged, and the fires and
the measurement that the completion makes due are taken (R12, R15, R90, R110). -/
def State.completeIndex (s : State) (seen : Bool) : State :=
  if s.chain.index = .inFlight then
    let s1 : State := { s with chain := { s.chain with
      c := s.chain.c + 1, index := .idle, indexDrive := false, entryTaken := false } }
    ((s1.stopWatch .chain).checkAndFire seen).startMeasurement
  else s

/-- The row INDEX_COMPLETION: the arrival of the index sensor, with the presence input as it is sampled. -/
def execIndexCompletion (seen : Bool) (s : State) : Host.Outcome State Fault Refusal :=
  .next (s.completeIndex seen).judge

/-- The row CHAIN_JAM: the CHAIN watch expires (R13, R173). -/
def execChainJam (s : State) : Host.Outcome State Fault Refusal :=
  .next (if s.expiring .chain then ((s.expire .chain).raise .chainJam .stop {}).judge else s)

/-- The emergency stop at the index (R14). -/
def State.interruptIndex (s : State) : State :=
  if s.chain.index = .inFlight then
    State.haltWatch { s with chain := { s.chain with index := .interrupted, indexDrive := false } } .chain
  else s

/-- The restart of an INTERRUPTED index at the start of RECOVERING (R14). -/
def State.recoverIndex (s : State) : State := if s.chain.index = .interrupted then s.driveIndex else s

/-! ## The reject gate (R17, R18) -/

/-- The row GATE_STROKE_START. -/
def execGateStrokeStart (s : State) : Host.Outcome State Fault Refusal := .next s.startStroke.judge

/-- The completion of the gate stroke (R18). -/
def State.completeStroke (s : State) : State :=
  match s.chain.gateStroke with
  | none => s
  | some p =>
    let s1 := s.setPocket p Pocket.emptied
    State.stopWatch { s1 with chain := { s1.chain with gateStroke := none, gateOutput := false } } .gate

/-- The row GATE_STROKE_COMPLETION: the gate sensor's return to home. -/
def execGateStrokeCompletion (s : State) : Host.Outcome State Fault Refusal := .next s.completeStroke.judge

/-- The row GATE_JAM: the GATE watch expires (R18, R173). -/
def execGateJam (s : State) : Host.Outcome State Fault Refusal :=
  .next (if s.expiring .gate then
    (State.draw ((s.expire .gate).raise .gateJam s.alarms.slots.transport
      { pocket := s.chain.gateStroke.map Fin.val, detail := s.freeDetail })).judge
  else s)

/-! ## Commands -/

/-- The number of pockets in a state (R21). -/
def State.pocketCount (s : State) (st : PocketState) : Nat := s.chain.pockets.toList.countP fun k => k.state = st

/-- The pocket states in the order of R2. -/
def allPocketStates : List PocketState :=
  [.unknown, .empty, .assigned, .fired, .loaded, .verified, .rejected, .orphan]

/-- READ_CHAIN (R21). -/
def actReadChain (s : State) : Acted :=
  s.answers (u8 s.chain.c.val ++ u8 s.chain.index.num ++ yn s.workPresent
    ++ u8 (bits4 s.holdFire s.holdVerify s.holdGate s.holdTransfer)
    ++ allPocketStates.flatMap fun st => u8 (s.pocketCount st))

/-- A pocket record on the link (R2, R22). -/
def pocketBytes (p : Fin 128) (k : Pocket) : List Byte :=
  u8 p.val ++ u8 k.state.num ++ opt EntryRef.bytes k.entry ++ opt (fun st => u8 st.val) k.station
    ++ opt (fun r => u8 r.num) k.result ++ opt (fun c => u8 c.num) k.cause

/-- READ_POCKET (R22). -/
def actReadPocket (pocket : Nat) (s : State) : Acted :=
  if h : pocket < 128 then
    s.answers (pocketBytes ⟨pocket, h⟩ (s.pocket ⟨pocket, h⟩) ++ u8 (s.positionOf ⟨pocket, h⟩).val)
  else s.refuses .badValue

end Sys2Proof.Machine
end

