-- ==== Sys2Proof/Machine/TableOps.lean ====
section
/-! DEFINITION. Table positioning (chapter 7) with the axis events the span axis shares: homing, moves, the restart of
a kept move, the emergency stop at the table, and the owner's actions of HOME, SET_GEOMETRY and READ_TABLE. -/

namespace Sys2Proof.Machine

/-- One of a list by a free choice, where the manual leaves open which comes first (DESIGN CHOICE, assumption log 8). -/
def State.freePick {α : Type} (s : State) (a : α) : List α → α
  | [] => a
  | l => (a :: l).getD (s.freeOrder (l.length + 1)) a

/-! ## Homing (R121 to R123, R141) -/

/-- The axis record at the acceptance of HOME, with the home switch as it stands (R121, R122, R141). -/
def AxisRec.startHoming (a : AxisRec) (made : Bool) : AxisRec :=
  { a with homed := false, drive := true, target := none, parked := none, slowing := false
           state := .homing (if made then .clear else .search) }

/-- One axis starts its homing (R121, R141), up to the notice to ALC. -/
def State.startHoming (s : State) (a : Axis) : State :=
  s.setAxis a ((s.axis a).startHoming (homeSwitch s.pins a))

/-- The axes a HOME set names: bit 0 X, 1 Y, 2 R, 3 SPAN (R121, R201). -/
def namedAxes (axes : Nat) : List Axis :=
  (if axes.testBit 0 then [Axis.x] else []) ++ (if axes.testBit 1 then [Axis.y] else [])
    ++ (if axes.testBit 2 then [Axis.r] else []) ++ (if axes.testBit 3 then [Axis.span] else [])

/-- An axis of X, Y and R is named. -/
def namesTable (axes : Nat) : Bool := axes.testBit 0 || axes.testBit 1 || axes.testBit 2

/-- What a HOME of X, Y or R does to the table record (R121, R126, R129). A move's purpose goes with its positioned
state (DEDUCED, assumption log 20). -/
def Table.forHoming (t : Table) : Table :=
  { t with purpose := none, positioned := false, kept := none, settle := none, followError := false }

/-- The fixed length of the two homing starts, in ms (R172). -/
def homingLength : Nat := 20000

/-- TPS's part of an accepted HOME (R121, R123). -/
def State.homeTable (s : State) (axes : Nat) : State :=
  if namesTable axes then
    State.startWatch { s with table := s.table.forHoming } .table homingLength
  else s

/-- HDC's part of an accepted HOME (R141). -/
def State.homeSpan (s : State) (axes : Nat) : State :=
  if axes.testBit 3 then
    State.startWatch { s with head := { s.head with keptSpan := none, spanMoving := false } } .span homingLength
  else s

/-- The notices to ALC of the axes that lose their homing, which of them first being open (R121, R141, R187). -/
def State.noticeUnhomed (s : State) : List Axis → State
  | [] => s
  | a :: l =>
    let first := s.freePick a l
    let s1 := if l.isEmpty then s else s.draw
    (first :: a :: l).foldl (fun s a => s.noticeHomed a false) s1

/-- HOME (R121, R141). -/
def actHome (axes : Nat) (s : State) : Acted :=
  if axes = 0 ∨ 15 < axes then s.refuses .badValue
  else
    match s.line with
    | .unready | .ready | .held =>
      if (namedAxes axes).any fun a => (s.axis a).isHoming then s.refuses .busy
      else if namesTable axes && !(s.head.state = .top || s.head.state = .wait) then s.refuses .busy
      else
        let lost := (namedAxes axes).filter fun a => (s.axis a).homed
        let s1 := (namedAxes axes).foldl State.startHoming s
        State.accepts (((s1.homeTable axes).homeSpan axes).noticeUnhomed lost)
    | _ => s.refuses .wrongState

/-- The park target of an axis (R122, R141). -/
def State.parkTarget (s : State) : Axis → Int
  | .x => s.table.geometry.lx
  | .y => s.table.geometry.ly
  | .r => 0
  | .span => 2000

/-- The axis record at the switch edge (R122, R141); from here the axis decelerates from the search. -/
def AxisRec.edge (a : AxisRec) (park : Int) : AxisRec :=
  { a with
    counter := 0, commanded := 0, homed := true, target := some park, state := .homing .park, parked := none
    slowing := true }

/-- The axis is in the clear or search stage: its switch edge is still to come. -/
def AxisRec.seeking (a : AxisRec) : Bool :=
  match a.state with
  | .homing .clear | .homing .search => true
  | _ => false

/-- An axis of X, Y and R whose switch edge is still to come (DEDUCED, assumption log 25). -/
def Table.seeking (t : Table) : Bool := t.x.seeking || t.y.seeking || t.r.seeking

/-- The watch of a homing at a switch edge: SPAN for the span axis, and TABLE at the last of the table axes (R123,
R141). -/
def State.edgeWatch (s : State) : Axis → State
  | .span => s.startWatch .span (s.timeout .span)
  | _ => if s.table.seeking then s else s.startWatch .table (s.timeout .table)

/-- The switch edge of an axis (R122, R141). -/
def State.switchEdge (s : State) (a : Axis) : State :=
  ((s.setAxis a ((s.axis a).edge (s.parkTarget a))).noticeHomed a true).edgeWatch a

/-- An arrival of a home switch input (R122). -/
def State.homeSwitchArrival (s : State) (a : Axis) (made : Bool) : State :=
  let s1 : State := { s with pins := setHomeSwitch s.pins a made }
  match (s1.axis a).state, made with
  | .homing .clear, false => s1.setAxis a { s1.axis a with state := .homing .search }
  | .homing .search, true => s1.switchEdge a
  | _, _ => s1

/-- The row HOME_SWITCH_ARRIVAL. -/
def execHomeSwitchArrival (axis : Axis) (made : Bool) (s : State) : Host.Outcome State Fault Refusal :=
  .next (s.homeSwitchArrival axis made).judge

/-- The settle time of a parking table axis has run (R122). -/
def State.parkDue (s : State) (a : Axis) : Bool :=
  (s.axis a).isParking && (s.axis a).parked.any fun n => s.table.geometry.settle ≤ n

/-- The row HOMING_PARK_SETTLED. The span axis has no settle time (R140, R141): its park ends at ENCODER_COUNT. -/
def execHomingParkSettled (axis : Axis) (s : State) : Host.Outcome State Fault Refusal :=
  .next (if axis ≠ .span ∧ s.parkDue axis then (s.parkDone axis).judge else s)

/-- The detail number of a TABLE_TIMEOUT of a homing (R123). -/
def Table.homingDetail (t : Table) : Nat :=
  t.x.isHoming.toNat + 2 * t.y.isHoming.toNat + 4 * t.r.isHoming.toNat + (if t.seeking then 100 else 0)

/-- The TABLE watch expires in a homing or in a move (R123, R131, R173). The detail of a move is not stated
(DESIGN CHOICE, assumption log 7), and its context holds nothing else (DEDUCED, assumption log 27). -/
def State.tableTimeout (s : State) : State :=
  if s.table.homing then (s.expire .table).raise .tableTimeout .stop { detail := s.table.homingDetail }
  else State.draw ((s.expire .table).raise .tableTimeout .stop { detail := s.freeDetail })

/-- The row TABLE_TIMEOUT. -/
def execTableTimeout (s : State) : Host.Outcome State Fault Refusal :=
  .next (if s.expiring .table then s.tableTimeout.judge else s)

/-! ## Encoder counts and profiles (R120, R131, R135, R140) -/

/-- Steps issued on the way to a target: the commanded position moves towards it and not past it (R122, R131, R135). -/
def stepsTo (target commanded steps : Int) : Int :=
  if commanded < target then max commanded (min (commanded + steps) target)
  else min commanded (max (commanded + steps) target)

/-- Steps of a MOVING axis (R131, R140): they stay short of the target, since the last step is that of AXIS_PROFILE_COMPLETE or
of AXIS_DECELERATED (DESIGN CHOICE, assumption log 17). -/
def stepsTowards (target commanded steps : Int) : Int :=
  if commanded < target then stepsTo (target - 1) commanded steps
  else if target < commanded then stepsTo (target + 1) commanded steps
  else commanded

/-- Steps issued to an axis with its drive enabled (R120). The stages of a homing fix their sense (R122): positive in clear,
negative in search, and in park negative while the axis still decelerates from the search, and then towards the park target.
A MOVING axis takes them towards its target, and elsewhere none is issued. -/
def AxisRec.issue (a : AxisRec) (steps : Int) : AxisRec :=
  if !a.drive then a
  else
    match a.state with
    | .homing .clear => { a with commanded := position32 (a.commanded + max steps 0) }
    | .homing .search => { a with commanded := position32 (a.commanded + min steps 0) }
    | .homing .park =>
      if a.slowing && decide (steps ≤ 0) then { a with commanded := position32 (a.commanded + steps) }
      else { a with commanded := a.target.elim a.commanded fun t => stepsTo t a.commanded steps, slowing := false }
    | .moving => { a with commanded := a.target.elim a.commanded fun t => stepsTowards t a.commanded steps }
    | _ => a

/-- One encoder count, with the steps that the controller has issued to the axis in the same instant (R120). The commanded
position of a disabled drive is the counter. -/
def AxisRec.count (a : AxisRec) (positive : Bool) (steps : Int) : AxisRec :=
  let c := position32 (a.counter + if positive then 1 else -1)
  if a.drive then { a.issue steps with counter := c } else { a with counter := c, commanded := c }

/-- The row ENCODER_COUNT. -/
def execEncoderCount (axis : Axis) (positive : Bool) (steps : Int) (s : State) : Host.Outcome State Fault Refusal :=
  .next (s.setAxis axis ((s.axis axis).count positive steps)).judge

/-- A move of the axis is in flight, and not decelerating after a STOP (R131, R140). -/
def State.axisDriven (s : State) : Axis → Bool
  | .span => s.head.keptSpan.isNone
  | _ => s.table.inFlight

/-- The profile of a MOVING axis is complete (R131, R140). -/
def AxisRec.arrive (a : AxisRec) : AxisRec :=
  { a with state := .settling, commanded := a.target.getD a.commanded }

/-- The row AXIS_PROFILE_COMPLETE. -/
def execAxisProfileComplete (axis : Axis) (s : State) : Host.Outcome State Fault Refusal :=
  .next (if (s.axis axis).state = .moving ∧ s.axisDriven axis then
    (s.setAxis axis (s.axis axis).arrive).judge
  else s)

/-- An axis stopped in a move comes to rest, short of its target or at it, and becomes IDLE (R135, R152). -/
def AxisRec.comeToRest (a : AxisRec) (rest : Int) : AxisRec :=
  { a with state := .idle, commanded := a.target.elim a.commanded fun t => stepsTo t a.commanded (rest - a.commanded) }

/-- The row AXIS_DECELERATED, with the place of rest; one past the target or behind the axis is taken as the nearest place that
is not. -/
def execAxisDecelerated (axis : Axis) (rest : Int) (s : State) : Host.Outcome State Fault Refusal :=
  .next (if (s.axis axis).state = .moving ∧ !s.axisDriven axis then
    (s.setAxis axis ((s.axis axis).comeToRest rest)).judge
  else s)

/-- The settle time of the table has run (R132). -/
def State.positionDue (s : State) : Bool :=
  s.table.maySettle && s.table.settle.any fun n => s.table.geometry.settle ≤ n

/-- The row TABLE_POSITIONED. -/
def execTablePositioned (s : State) : Host.Outcome State Fault Refusal :=
  .next (if s.positionDue then s.positionTable.judge else s)

/-! ## Moves (R130, R131, R133, R135) -/

/-- The row ENTRY_MOVE_START. -/
def execEntryMoveStart (s : State) : Host.Outcome State Fault Refusal := .next s.startEntryMove.judge

/-- The row LOAD_MOVE_START. -/
def execLoadMoveStart (s : State) : Host.Outcome State Fault Refusal := .next s.startLoadMove.judge

/-- The kept move at the entry into RUNNING (R135): restarted, or absent when another entry move is due or the entry
is no longer wanted. -/
def State.restartKept (s : State) : State :=
  match s.table.kept with
  | none => s
  | some p =>
    match p, s.entryMoveDue with
    | .load, none => s.startMove .load
    | .entry ref, some wanted =>
      if ref = wanted then s.startMove (.entry ref) else { s with table := { s.table with kept := none } }
    | _, _ => { s with table := { s.table with kept := none } }

/-! ## The emergency stop at the table (R136) -/

/-- An axis at the emergency stop (R136); the target of a table axis is kept (DEDUCED, assumption log 26). -/
def AxisRec.estop (a : AxisRec) : AxisRec :=
  { a with drive := false, commanded := a.counter, homed := false, state := .unhomed, parked := none, slowing := false }

/-- The table at the emergency stop (R136). -/
def Table.estop (t : Table) : Table :=
  { t with
    x := t.x.estop, y := t.y.estop, r := t.r.estop
    inFlight := false, positioned := false, purpose := none, kept := none, settle := none }

/-- TPS's part of the emergency stop (R136). -/
def State.estopTable (s : State) : State :=
  ((((({ s with table := s.table.estop } : State).haltWatch .table).noticeHomed .x false).noticeHomed .y
    false).noticeHomed .r false)

/-! ## Commands -/

/-- Every field of R124 lies in its range. -/
def geometryOk (g : Geometry) : Bool :=
  decide (g.hx ≤ 120000) && decide (g.hy ≤ 120000) && decide (g.rcx ≤ 60000) && decide (g.rcy ≤ 60000)
    && withinInt (-2000) 2000 g.sx && withinInt (-2000) 2000 g.sy
    && decide (g.xmax ≤ 240000) && decide (g.xmin < g.xmax) && decide (g.ymax ≤ 200000) && decide (g.ymin < g.ymax)
    && within g.xmin g.xmax g.lx && within g.ymin g.ymax g.ly
    && within 1 200 g.window && decide (g.settle ≤ 100) && within 50 5000 g.following

/-- The travel check of the loaded program with a geometry (R55, R58). -/
def State.travelWith (s : State) (g : Geometry) : Option (Nat × Nat) :=
  match s.programs.store with
  | .loaded h l _ _ => travelFailure g h (indexed l)
  | _ => none

/-- An IN_POSITION axis when a geometry is applied (R126). -/
def AxisRec.unposition (a : AxisRec) : AxisRec := if a.state = .inPosition then { a with state := .idle } else a

/-- The table under a new geometry (R125, R126). An axis that is SETTLING without a move in flight, since it has left its
window, stays SETTLING (DESIGN CHOICE, assumption log 39). -/
def Table.withGeometry (t : Table) (g : Geometry) : Table :=
  { t with
    x := t.x.unposition, y := t.y.unposition, r := t.r.unposition
    purpose := none, positioned := false, settle := none, geometry := g }

/-- SET_GEOMETRY (R125). -/
def actSetGeometry (g : Geometry) (s : State) : Acted :=
  if !geometryOk g then s.refuses .badValue
  else if s.working then s.refuses .wrongState
  else if s.table.homing then s.refuses .busy
  else
    match s.travelWith g with
    | some (step, image) => s.refuses .outOfTravel (u16 step ++ u8 image)
    | none =>
      ({ s with table := s.table.withGeometry g } : State).accepts fun s => geometryBytes s.table.geometry

/-- The table record in the order of R129. The load request is sent as a yes, pending, or a no (DESIGN CHOICE, assumption log
14). -/
def Table.recordBytes (t : Table) : List Byte :=
  opt Purpose.bytes t.purpose ++ yn t.inFlight ++ yn t.positioned ++ opt Purpose.bytes t.kept ++ yn t.loadRequest
    ++ yn t.settle.isSome

/-- READ_TABLE (R137). -/
def actReadTable (s : State) : Acted :=
  s.answers (s.table.x.bytes ++ s.table.y.bytes ++ s.table.r.bytes ++ s.table.recordBytes ++ yn s.table.atLoad
    ++ geometryBytes s.table.geometry)

end Sys2Proof.Machine
end

