-- ==== Sys2Proof/Machine/HeadOps.lean ====
section
/-! DEFINITION. The insertion head and the clinch unit (chapter 8): pick, form, drive, clinch, return and discard, the
two watches, the emergency stop and the recovery course, and the owner's action of READ_HEAD. -/

namespace Sys2Proof.Machine

/-- The context of the entry held (R146, R147, R150). -/
def State.heldContext (s : State) (detail : Nat) : Context :=
  match s.head.held with
  | some h =>
    { board := some h.ref.board, index := some h.ref.index, code := some (s.codeOf h.ref), detail := detail }
  | none => { detail := detail }

/-! ## Entering the stroke states -/

/-- The clinch state at the entry into RETURN (R148). -/
def ClinchState.retract : ClinchState → ClinchState
  | .stroking _ | .stopped _ => .retracting
  | c => c

/-- A clinch state that the entry into RETURN turns to RETRACTING (R148). -/
def ClinchState.retracts : ClinchState → Bool
  | .stroking _ | .stopped _ => true
  | _ => false

/-- The entry into RETURN (R148). -/
def State.enterRise (s : State) : State :=
  State.startWatch
    { s with head := { s.head with
        state := .rise, clinch := s.head.clinch.retract
        outputs := { s.head.outputs with
          drive := none, rise := true
          clinch := if s.head.clinch.retracts then none else s.head.outputs.clinch
          retract := s.head.outputs.retract || s.head.clinch.retracts } } }
    .head (s.timeout .head)

/-- The entry into CLINCH (R147). -/
def State.enterClinch (s : State) (dir : ClinchDir) : State :=
  State.startWatch
    { s with head := { s.head with
        state := .clinch, clinch := .stroking dir
        outputs := { s.head.outputs with clinch := some dir, retract := false } } }
    .head (s.timeout .head)

/-- The entry into WAIT: the HEAD watch stops (R144, R150). -/
def State.enterWait (s : State) : State := State.stopWatch { s with head := { s.head with state := .wait } } .head

/-! ## Pick and form (R142 to R144) -/

/-- The row PICK_START. -/
def execPickStart (s : State) : Host.Outcome State Fault Refusal := .next s.startPick.judge

/-- BDQ makes the entry handed over IN_HEAD; its host-remake mark is cleared (R19, R82, R143). -/
def Entry.toHead (e : Entry) : Entry :=
  if e.status = .verified then { e with status := .inHead, pocket := none, hostRemake := false } else e

/-- The entry held, with the attributes of its entry record (R138). -/
def heldOf (ref : EntryRef) (e : Entry) : HeldEntry :=
  { ref := ref, span := e.span, clinch := e.clinch, drive := e.drive }

/-- The component that belongs to no entry (R143): discarded in RUNNING and in RECOVERING, kept in WAIT in HOLDING. -/
def State.takeUnowned (s : State) : State :=
  let s1 : State := { s with head := { s.head with unowned := true } }
  if s.line = .running ∨ s.line = .recovering then s1.enterDiscard else s1.enterWait

/-- The component handed over with its entry (R143): PICK, stage SPAN_WAIT, from which the head goes on in the same
event where the span axis already stands at the entry's span. A reference that names no entry is taken as none (DESIGN CHOICE,
assumption log 16). -/
def State.takeEntry (s : State) (ref : EntryRef) : State :=
  match s.entry? ref with
  | none => s.takeUnowned
  | some e =>
    let s1 := s.modifyEntry ref Entry.toHead
    { s1 with head := { s1.head with state := .pickSpanWait, held := some (heldOf ref e) } }

/-- The pick completion (R19, R143). -/
def State.completePick (s : State) : State :=
  if s.head.state = .pickStroke then
    let p := s.pocketAt 96
    let ref := (s.pocket p).entry
    let s1 := s.setPocket p Pocket.emptied
    let s2 := State.stopWatch
      { s1 with head := { s1.head with outputs := { s1.head.outputs with pick := false } } } .head
    match ref with
    | some ref => s2.takeEntry ref
    | none => s2.takeUnowned
  else s

/-- The row PICK_COMPLETION: the arrival of the pick-done input. -/
def execPickCompletion (s : State) : Host.Outcome State Fault Refusal := .next s.completePick.judge

/-- The form completion (R144). -/
def State.completeForm (s : State) : State :=
  if s.head.state = .form then
    State.enterWait { s with head := { s.head with outputs := { s.head.outputs with form := false } } }
  else s

/-- The row FORM_COMPLETION: the arrival of the form-done input. -/
def execFormCompletion (s : State) : Host.Outcome State Fault Refusal := .next s.completeForm.judge

/-! ## Drive (R145, R146) -/

/-- The row DRIVE_START. -/
def execDriveStart (s : State) : Host.Outcome State Fault Refusal := .next s.startDrive.judge

/-- A lead seen in DRIVE (R146); elsewhere the arrival is not recorded (R139). -/
def HeadState.see : HeadState → Side → HeadState
  | .drive _ r, .left => .drive true r
  | .drive l _, .right => .drive l true
  | st, _ => st

/-- The row LEAD_SENSOR_ARRIVAL. -/
def execLeadSensorArrival (side : Side) (s : State) : Host.Outcome State Fault Refusal :=
  .next (State.judge { s with head := { s.head with state := s.head.state.see side } })

/-- The side missing or not confirmed: 1 left, 2 right, 3 both, 0 neither (R146, R147). -/
def sideDetail (left right : Bool) : Nat := (!left).toNat + 2 * (!right).toNat

/-- The outcome notice INSERTED, and what it leaves in the head record (R146, R147). -/
def State.insertHeld (s : State) : State :=
  match s.head.held with
  | none => s
  | some h =>
    let s1 := s.noticeOutcome h.ref .inserted
    { s1 with head := { s1.head with
        held := none, counts := { s1.head.counts with inserted := wrapInc s1.head.counts.inserted } } }

/-- The outcome notice UNCLINCHED, and what it leaves in the head record (R147). -/
def State.unclinchHeld (s : State) : State :=
  match s.head.held with
  | none => s
  | some h =>
    let s1 := s.noticeOutcome h.ref .unclinched
    { s1 with head := { s1.head with
        held := none, counts := { s1.head.counts with unclinched := wrapInc s1.head.counts.unclinched } } }

/-- The clinch direction a clinch mode gives, if any (R146, R147). -/
def ClinchMode.dir? : ClinchMode → Option ClinchDir
  | .inward => some .inward | .outward => some .outward | .none => Option.none

/-- A lead missing at drive-bottom (R146). The raise comes last, so that with the INSERT class STOP the halt finds the head in
RETURN, and the outcome of R146 stands (DEDUCED, assumption log 36). -/
def State.missLead (s : State) (detail : Nat) : State :=
  let ctx := s.heldContext detail
  ((s.failHeld .leadMiss false).enterRise).raise .leadMiss s.alarms.slots.insert ctx

/-- The drive completion (R146). -/
def State.completeDrive (s : State) : State :=
  match s.head.state, s.head.held with
  | .drive l r, some h =>
    if l && r then
      match h.clinch.dir? with
      | some dir => s.enterClinch dir
      | none => s.insertHeld.enterRise
    else s.missLead (sideDetail l r)
  | _, _ => s

/-- The row DRIVE_COMPLETION: the arrival of the drive-bottom input. -/
def execDriveCompletion (s : State) : Host.Outcome State Fault Refusal := .next s.completeDrive.judge

/-! ## Clinch, return and discard (R147 to R149) -/

/-- The outcome of a clinch stroke, with the cut-confirm inputs read as they stand (R147). An arrival outside CLINCH is not
recorded (R139). -/
def State.completeClinch (s : State) (left right : Bool) : State :=
  if s.head.state = .clinch then
    let s1 : State := { s with pins := { s.pins with cutLeft := left, cutRight := right } }
    if left && right then s1.insertHeld.enterRise
    else
      let ctx := s1.heldContext (sideDetail left right)
      (s1.unclinchHeld.enterRise).raise .clinchFail .stop ctx
  else s

/-- The row CLINCH_COMPLETION: the arrival of the clinch-end input, with the cut-confirm inputs as they stand
(DEDUCED, assumption log 22). -/
def execClinchCompletion (cutLeft cutRight : Bool) (s : State) : Host.Outcome State Fault Refusal :=
  .next (s.completeClinch cutLeft cutRight).judge

/-- An arrival of the clinch-home input (R148). -/
def State.clinchHomeArrival (s : State) (made : Bool) : State :=
  let s1 : State := { s with pins := { s.pins with clinchHome := made } }
  if made ∧ s1.head.clinch = .retracting then
    { s1 with head := { s1.head with
        clinch := .retracted, outputs := { s1.head.outputs with retract := false } } }
  else s1

/-- The row CLINCH_HOME_ARRIVAL. -/
def execClinchHomeArrival (made : Bool) (s : State) : Host.Outcome State Fault Refusal :=
  .next (s.clinchHomeArrival made).judge

/-- An arrival of the head-top input (R138, R148): HALTED from RESET becomes TOP. -/
def State.headTopArrival (s : State) (made : Bool) : State :=
  let s1 : State := { s with pins := { s.pins with headTop := made } }
  match s.head.state, made with
  | .halted .reset _, true => s1.enterTop.noticeHalted false
  | _, _ => s1

/-- The row HEAD_TOP_ARRIVAL. -/
def execHeadTopArrival (made : Bool) (s : State) : Host.Outcome State Fault Refusal :=
  .next (s.headTopArrival made).judge

/-- The row DISCARD_START (R149). -/
def execDiscardStart (s : State) : Host.Outcome State Fault Refusal := .next s.startDiscard.judge

/-- The row JAWS_OPEN_ARRIVAL (R149). -/
def execJawsOpenArrival (made : Bool) (s : State) : Host.Outcome State Fault Refusal :=
  .next (State.judge { s with pins := { s.pins with jawsOpen := made } })

/-! ## The watches (R150) -/

/-- The number of the state in which the HEAD watch ran out (R150). -/
def HeadState.jamNumber : HeadState → Nat
  | .pickStroke | .pickSpanWait => 1
  | .form => 2
  | .drive .. => 3
  | .clinch => 4
  | .rise => 5
  | .discard => 6
  | _ => 0

/-- The row HEAD_JAM: the HEAD watch expires (R150, R173). -/
def execHeadJam (s : State) : Host.Outcome State Fault Refusal :=
  .next (if s.expiring .head then
    ((s.expire .head).raise .headJam .stop (s.heldContext s.head.state.jamNumber)).judge
  else s)

/-- The context of a SPAN_TIMEOUT (R150): the entry held for a move, and none for a homing. -/
def State.spanContext (s : State) : Context :=
  match s.head.span.state with
  | .homing .park => { detail := 1 }
  | .homing _ => { detail := 101 }
  | _ => { board := s.head.held.map (·.ref.board), index := s.head.held.map (·.ref.index), detail := 0 }

/-- The row SPAN_TIMEOUT: the SPAN watch expires (R150, R173). -/
def execSpanTimeout (s : State) : Host.Outcome State Fault Refusal :=
  .next (if s.expiring .span then ((s.expire .span).raise .spanTimeout .stop s.spanContext).judge else s)

/-! ## The emergency stop at the head and the span axis (R153) -/

/-- The clinch unit at the emergency stop (R153). -/
def ClinchState.estop : ClinchState → ClinchState
  | .stroking d => .stopped (some d)
  | .retracting => .stopped none
  | c => c

/-- The head state at the emergency stop (R153). -/
def HeadState.estop (h : HeadState) : HeadState := .halted h.haltSource true

/-- The span axis at the emergency stop (R153). -/
def State.estopSpan (s : State) : State :=
  State.noticeHomed
    (State.haltWatch
      { s with head := { s.head with
          span := { s.head.span.estop with target := none }, keptSpan := none, spanMoving := false } } .span) .span false

/-- HDC's part of the emergency stop (R153). The halt itself is R152's, which gives the outcome of a drive or a clinch;
then a component still held is lost. -/
def State.estopHead (s : State) : State :=
  let s1 := s.haltHead.failHeld .lost false
  let s2 : State :=
    { s1 with head := { s1.head with
        state := s1.head.state.estop, unowned := false, clinch := s1.head.clinch.estop, outputs := {} } }
  ((s2.haltWatch .head).noticeHalted true).estopSpan

/-! ## Recovery (R154) -/

/-- Jaw air turned on (R154). -/
def State.jawAirOn (s : State) : State :=
  { s with head := { s.head with outputs := { s.head.outputs with jawAir := true } } }

/-- The head leaves HALTED, with the notice to ALC (R154): jaw air comes back on unless air is lost. -/
def State.leaveHalted (s : State) (airLost : Bool) : State :=
  State.noticeHalted (if airLost then s else s.jawAirOn) false

/-- PICK, stage SPAN_WAIT, taken up again: with the kept span move if one stands (R154). -/
def State.resumeSpanWait (s : State) : State :=
  let s1 : State := { s with head := { s.head with state := .pickSpanWait } }
  match s1.head.keptSpan with
  | some t => if s1.head.span.homed && !s1.head.span.isHoming then s1.startSpan t else s1
  | none => s1

/-- The course of a head that still has its air (R154). An unowned component goes to DISCARD in place of FORM or of WAIT; from
SPAN_WAIT it does so where its span move has ended (`State.judgeForm`). -/
def State.resumeFrom (s : State) : HaltedFrom → State
  | .reset | .top | .drive | .clinch | .rise => s.enterRise
  | .pickStroke => s.enterPick
  | .pickSpanWait => s.resumeSpanWait
  | .form => if s.head.unowned then s.enterDiscard else s.enterForm
  | .wait => if s.head.unowned then s.enterDiscard else s.enterWait
  | .discard => s.enterDiscard

/-- The head at the start of RECOVERING (R154). A head that is not HALTED is at rest already; its air is not lost, and jaw
air is turned on. -/
def State.recoverHead (s : State) : State :=
  match s.head.state with
  | .halted src airLost =>
    let s1 := s.leaveHalted airLost
    if airLost then s1.enterRise else s1.resumeFrom src
  | _ => s.jawAirOn

/-! ## READ_HEAD (R155) -/

/-- The head states in the order of R138. -/
def HeadState.num : HeadState → Nat
  | .top => 0 | .pickStroke | .pickSpanWait => 1 | .form => 2 | .wait => 3 | .drive .. => 4 | .clinch => 5 | .rise => 6
  | .discard => 7 | .halted .. => 8

/-- The pick stages: STROKE 0, SPAN_WAIT 1 (R138). -/
def HeadState.stage? : HeadState → Option Nat
  | .pickStroke => some 0 | .pickSpanWait => some 1 | _ => none

/-- Halted from on the link: the number of the state left, or 9 for RESET, and the pick stage (R138; DESIGN CHOICE, assumption log
14). -/
def HaltedFrom.bytes : HaltedFrom → List Byte
  | .reset => u8 9 ++ opt u8 none
  | .top => u8 0 ++ opt u8 none
  | .pickStroke => u8 1 ++ opt u8 (some 0)
  | .pickSpanWait => u8 1 ++ opt u8 (some 1)
  | .form => u8 2 ++ opt u8 none
  | .wait => u8 3 ++ opt u8 none
  | .drive => u8 4 ++ opt u8 none
  | .clinch => u8 5 ++ opt u8 none
  | .rise => u8 6 ++ opt u8 none
  | .discard => u8 7 ++ opt u8 none

def HeldEntry.bytes (h : HeldEntry) : List Byte :=
  h.ref.bytes ++ u16 h.span ++ u8 h.clinch.num ++ u8 h.drive.num

/-- The clinch states in the order of R138. -/
def ClinchState.num : ClinchState → Nat
  | .retracted => 0 | .stroking _ => 1 | .retracting => 2 | .stopped _ => 3

/-- The clinch direction, where it is present (R138). -/
def ClinchState.dir? : ClinchState → Option ClinchDir
  | .stroking d => some d | .stopped d => d | _ => none

def ClinchDir.num : ClinchDir → Nat
  | .inward => 0 | .outward => 1

/-- The leads seen, present in DRIVE (R138). -/
def HeadState.leads? : HeadState → Option (Bool × Bool)
  | .drive l r => some (l, r) | _ => none

/-- Halted from and air lost, present in HALTED (R138). -/
def HeadState.halt? : HeadState → Option (HaltedFrom × Bool)
  | .halted src air => some (src, air) | _ => none

/-- The head record in the order of R138. -/
def Head.recordBytes (h : Head) : List Byte :=
  u8 h.state.num ++ opt u8 h.state.stage? ++ opt HeldEntry.bytes h.held ++ yn h.unowned
    ++ opt (fun p => yn p.1 ++ yn p.2) h.state.leads?
    ++ opt (fun p => p.1.bytes) h.state.halt? ++ opt (fun p => yn p.2) h.state.halt?
    ++ yn h.boardWait ++ u8 h.clinch.num ++ opt (fun d => u8 d.num) h.clinch.dir?
    ++ u32 h.counts.picks ++ u32 h.counts.inserted ++ u32 h.counts.unclinched ++ u32 h.counts.failedOpen
    ++ u32 h.counts.discards

/-- An input state on the link: MADE 0, OPEN 1 (R166, R201). -/
def level (made : Bool) : List Byte := u8 (if made then 0 else 1)

/-- The cut-confirm inputs read as they stand (R155). No row brings their changes, so the levels are free (DEDUCED, assumption
log 22). -/
def State.sampleCut (s : State) : State :=
  State.draw { s with pins := { s.pins with
    cutLeft := (Config.cutConfirm s.drawn).1, cutRight := (Config.cutConfirm s.drawn).2 } }

/-- The items of READ_HEAD (R155): the head record, the span axis record with its kept span move, and the inputs. -/
def State.headBytes (s : State) : List Byte :=
  (s.head.recordBytes ++ s.head.span.recordBytes ++ opt i32 s.head.keptSpan ++ level s.pins.headTop
    ++ level s.pins.clinchHome ++ level s.pins.jawsOpen ++ level s.pins.cutLeft ++ level s.pins.cutRight)

/-- READ_HEAD (R155). -/
def actReadHead (s : State) : Acted := s.sampleCut.answers s.sampleCut.headBytes

end Sys2Proof.Machine
end

