-- ==== Sys2Proof/Machine/ConveyorOps.lean ====
section
/-! DEFINITION. The board conveyor (chapter 9): load, clamp, unclamp and unload, their sensors and watches, the restart
of halted runs, and the owner's action of READ_CONVEYOR. -/

namespace Sys2Proof.Machine

/-! ## Loading (R159 to R161) -/

/-- The row LOAD_START. -/
def execLoadStart (s : State) : Host.Outcome State Fault Refusal := .next s.startLoad.judge

/-- The row ENTRY_SENSOR_ARRIVAL: an entry run that it makes due starts in its event (R157, R160). -/
def execEntrySensorArrival (made : Bool) (s : State) : Host.Outcome State Fault Refusal :=
  .next (State.judge { s with pins := { s.pins with entrySensor := made } })

/-- The end of the entry run and the start of the clamp stroke (R160). -/
def State.endEntryRun (s : State) : State :=
  State.stopWatch
    { s with conveyor := { s.conveyor with
        state := .clamping
        outputs := { s.conveyor.outputs with entryRun := false, pinsUp := true, clampClose := true } } } .conveyor

/-- An arrival of the stop sensor (R157, R160, R164). -/
def State.stopSensorArrival (s : State) (made : Bool) : State :=
  let s1 : State := { s with pins := { s.pins with stopSensor := made } }
  match s.conveyor.state, made with
  | .entryRun false _, true => s1.endEntryRun
  | .entryRun true _, true => { s1 with conveyor := { s1.conveyor with state := .entryRun true true } }
  | _, _ => s1

/-- The row STOP_SENSOR_ARRIVAL. -/
def execStopSensorArrival (made : Bool) (s : State) : Host.Outcome State Fault Refusal :=
  .next (s.stopSensorArrival made).judge

/-- The BOARD_LOADED report (R161). -/
def State.reportLoaded (s : State) (id : Nat) : State := s.emit 0x45#8 (u32 id ++ u32 s.clock)

/-- The clamp confirmation (R161). -/
def State.confirmClamp (s : State) : State :=
  let s1 : State :=
    { s with conveyor := { s.conveyor with state := .clamped, loads := wrapInc s.conveyor.loads } }
  match s1.conveyor.board with
  | some id => (s1.setPhase id .clamped).reportLoaded id
  | none => s1

/-- An arrival of the clamp-closed input (R157, R161). -/
def State.clampClosedArrival (s : State) (made : Bool) : State :=
  let s1 : State := { s with pins := { s.pins with clampClosed := made } }
  if made ∧ s1.conveyor.state = .clamping then s1.confirmClamp else s1

/-- The row CLAMP_CLOSED_ARRIVAL. -/
def execClampClosedArrival (made : Bool) (s : State) : Host.Outcome State Fault Refusal :=
  .next (s.clampClosedArrival made).judge

/-! ## Unloading (R162, R163) -/

/-- The row UNLOAD_START. -/
def execUnloadStart (s : State) : Host.Outcome State Fault Refusal := .next s.startUnload.judge

/-- An arrival of the clamp-open input (R157, R162). -/
def State.clampOpenArrival (s : State) (made : Bool) : State :=
  let s1 : State := { s with pins := { s.pins with clampOpen := made } }
  if made ∧ s1.conveyor.state = .unclamping then
    { s1 with conveyor := { s1.conveyor with
        state := .tableWait, outputs := { s1.conveyor.outputs with clampOpen := false, pinsDown := false } } }
  else s1

/-- The row CLAMP_OPEN_ARRIVAL. -/
def execClampOpenArrival (made : Bool) (s : State) : Host.Outcome State Fault Refusal :=
  .next (s.clampOpenArrival made).judge

/-- The row EXIT_RUN_START. -/
def execExitRunStart (s : State) : Host.Outcome State Fault Refusal := .next s.startExitRun.judge

/-- The end of the exit run: the transport EMPTY, and BDQ finishes the board (R163, R77). -/
def State.endExitRun (s : State) : State :=
  let s1 := State.stopWatch
    { s with conveyor := { s.conveyor with
        state := .empty, board := none, unloads := wrapInc s.conveyor.unloads
        outputs := { s.conveyor.outputs with exitRun := false } } } .conveyor
  s1.finishActive

/-- An arrival of the exit sensor (R157, R163, R164). -/
def State.exitSensorArrival (s : State) (made : Bool) : State :=
  let s1 : State := { s with pins := { s.pins with exitSensor := made } }
  match s.conveyor.state, made with
  | .unloading halted _, true => { s1 with conveyor := { s1.conveyor with state := .unloading halted true } }
  | .unloading false true, false => s1.endExitRun
  | _, _ => s1

/-- The row EXIT_SENSOR_ARRIVAL. -/
def execExitSensorArrival (made : Bool) (s : State) : Host.Outcome State Fault Refusal :=
  .next (s.exitSensorArrival made).judge

/-! ## Restart at RUN (R164) -/

/-- A halted run at the entry into RUNNING (R164). -/
def State.restartConveyor (s : State) : State :=
  match s.conveyor.state with
  | .entryRun true true => s.endEntryRun
  | .entryRun true false =>
    State.startWatch
      { s with conveyor := { s.conveyor with
          state := .entryRun false false, outputs := { s.conveyor.outputs with entryRun := true } } }
      .conveyor (s.timeout .conveyor)
  | .unloading true seen => if seen && !s.pins.exitSensor then s.endExitRun else s.runExit seen
  | _ => s

/-! ## The CONVEYOR and BOARD watches (R160, R163, R174) -/

/-- The detail number of a CONVEYOR_JAM (R160, R163). -/
def TransportState.jamNumber : TransportState → Nat
  | .entryRun .. => 1
  | .unloading .. => 2
  | _ => 0

/-- The row CONVEYOR_JAM: the CONVEYOR watch expires (R160, R163, R173). -/
def execConveyorJam (s : State) : Host.Outcome State Fault Refusal :=
  .next (if s.expiring .conveyor then
    ((s.expire .conveyor).raise .conveyorJam s.alarms.slots.transport
      { board := s.conveyor.board, detail := s.conveyor.state.jamNumber }).judge
  else s)

/-- The wait record of a wait of the BOARD watch. -/
def State.boardWait? (s : State) : BoardWait → Option WaitRec
  | .transport => s.inputs.transportWait
  | .head => s.inputs.headWait

def State.setBoardWait (s : State) (w : BoardWait) (r : Option WaitRec) : State :=
  match w with
  | .transport => { s with inputs := { s.inputs with transportWait := r } }
  | .head => { s with inputs := { s.inputs with headWait := r } }

/-- The remaining time of a running wait has reached 0 (R174). -/
def State.lateDue (s : State) (w : BoardWait) : Bool :=
  (s.boardWait? w).any fun r => !r.expired && r.remaining = 0

/-- The expiry of a wait (R174), with a detail number that is not stated. -/
def State.expireWait (s : State) (w : BoardWait) : State :=
  match s.boardWait? w with
  | none => s
  | some r =>
    State.draw ((s.setBoardWait w (some { r with expired := true })).raise .boardLate s.alarms.slots.supply
      { board := some r.board, index := r.index, detail := s.freeDetail })

/-- The row BOARD_LATE. -/
def execBoardLate (wait : BoardWait) (s : State) : Host.Outcome State Fault Refusal :=
  .next (if s.lateDue wait then (s.expireWait wait).judge else s)

/-! ## READ_CONVEYOR (R165) -/

/-- The transport states in the order of R156. -/
def TransportState.num : TransportState → Nat
  | .empty => 0 | .entryWait | .entryRun .. => 1 | .clamping => 2 | .clamped => 3 | .unclamping | .tableWait => 4
  | .unloading .. => 5

/-- The stages, in the order of R156: ENTRY_WAIT 0, RUN 1, STROKE 2, TABLE_WAIT 3 (DESIGN CHOICE, assumption log 14). -/
def TransportState.stage? : TransportState → Option Nat
  | .entryWait => some 0 | .entryRun .. => some 1 | .unclamping => some 2 | .tableWait => some 3 | _ => none

/-- Halted, in the states in which it is present (R156). -/
def TransportState.halted? : TransportState → Option Bool
  | .entryRun h _ | .unloading h _ => some h
  | _ => none

/-- Stop reached, in LOADING stage RUN (R156). -/
def TransportState.stopReached? : TransportState → Option Bool
  | .entryRun _ b => some b | _ => none

/-- Exit seen, in UNLOADING (R156). -/
def TransportState.exitSeen? : TransportState → Option Bool
  | .unloading _ b => some b | _ => none

/-- The transport record in the order of R156. The unload request is sent as a yes, pending, or a no (DESIGN CHOICE,
assumption log 14). -/
def Conveyor.recordBytes (c : Conveyor) : List Byte :=
  u8 c.state.num ++ opt u8 c.state.stage? ++ opt u32 c.board ++ opt yn c.state.halted? ++ opt yn c.state.stopReached?
    ++ opt yn c.state.exitSeen? ++ yn c.unloadRequest ++ u32 c.loads ++ u32 c.unloads

/-- READ_CONVEYOR (R165). -/
def actReadConveyor (s : State) : Acted :=
  s.answers (s.conveyor.recordBytes ++ level s.pins.entrySensor ++ level s.pins.stopSensor ++ level s.pins.exitSensor
    ++ level s.pins.clampClosed ++ level s.pins.clampOpen ++ yn s.table.atLoad ++ yn s.table.loadRequest)

end Sys2Proof.Machine
end

