-- ==== Sys2Proof/Machine/InputOps.lean ====
section
/-! DEFINITION. The watch and input unit (chapter 10): debounced inputs, the emergency stop, and the owner's actions of
SET_DEBOUNCE, READ_INPUTS, SET_TIMING and READ_WATCHES. -/

namespace Sys2Proof.Machine

/-! ## Debounced inputs (R166) -/

/-- The record of a debounced input. -/
def State.slow (s : State) : SlowInput → SlowRec
  | .tape k => vget s.inputs.tapes k
  | .airOk => s.inputs.airOk
  | .guardClosed => s.inputs.guardClosed

def State.setSlow (s : State) (i : SlowInput) (r : SlowRec) : State :=
  match i with
  | .tape k => { s with inputs := { s.inputs with tapes := vset s.inputs.tapes k r } }
  | .airOk => { s with inputs := { s.inputs with airOk := r } }
  | .guardClosed => { s with inputs := { s.inputs with guardClosed := r } }

/-- The debounce time in force of an input (R167). -/
def State.debounceTime (s : State) : SlowInput → Nat
  | .tape _ => s.inputs.tapeTime
  | .airOk => s.inputs.airTime
  | .guardClosed => s.inputs.guardTime

/-- The debounced state a raw state stands for. -/
def Debounced.ofRaw (made : Bool) : Debounced := if made then .made else .opened

/-- An arrival of the input is due: the raw input has stayed in a state other than the debounced state for the
debounce time (R166). -/
def State.arrivalDue (s : State) (i : SlowInput) : Bool :=
  decide ((s.slow i).state ≠ Debounced.ofRaw (s.slow i).raw) && decide (s.debounceTime i ≤ (s.slow i).since)

/-- The condition-present field of a level source follows its condition (R169, R179). -/
def State.setCondition (s : State) (src : Source) (b : Bool) : State :=
  s.setSource src { s.source src with condition := b }

/-- The arrival of AIR_OK or GUARD_CLOSED at ALC (R166, R169). -/
def State.levelArrival (s : State) (src : Source) (present : Bool) : State :=
  let s1 := s.setCondition src present
  if present then s1.raise src s1.alarms.slots.guardAir {} else s1

/-- An arrival of a debounced input: its debounced state becomes the raw state, and it goes where it belongs (R166). -/
def State.slowArrival (s : State) (i : SlowInput) : State :=
  let r := s.slow i
  let s1 := s.setSlow i { r with state := Debounced.ofRaw r.raw }
  match i with
  | .tape k => s1.tapeArrival k r.raw
  | .airOk => s1.levelArrival .airLow (!r.raw)
  | .guardClosed => s1.levelArrival .guardOpen (!r.raw)

/-- A change of a raw input (R166); with a debounce time of 0 it is itself the arrival. -/
def State.rawChange (s : State) (i : SlowInput) (made : Bool) : State :=
  let r := s.slow i
  if r.raw = made then s
  else
    let s1 := s.setSlow i { r with raw := made, since := 0 }
    if s1.arrivalDue i then s1.slowArrival i else s1

/-- The row RAW_INPUT_CHANGE (a change to the same raw state: DESIGN CHOICE, assumption log 23). -/
def execRawInputChange (input : SlowInput) (made : Bool) (s : State) : Host.Outcome State Fault Refusal :=
  .next (s.rawChange input made).judge

/-- The row DEBOUNCED_ARRIVAL. -/
def execDebouncedArrival (input : SlowInput) (s : State) : Host.Outcome State Fault Refusal :=
  .next (if s.arrivalDue input then (s.slowArrival input).judge else s)

/-- The 82 debounced inputs. -/
def allSlow : List SlowInput := (List.finRange 80).map SlowInput.tape ++ [.airOk, .guardClosed]

/-- The arrivals of several inputs in one event, in an order the manual leaves open (R167; DESIGN CHOICE, assumption log 8). -/
def takeArrivals : Nat → List SlowInput → State → State
  | 0, _, s => s
  | _, [], s => s
  | n + 1, i :: l, s =>
    let first := s.freePick i l
    takeArrivals n ((i :: l).erase first) ((if l.isEmpty then s else s.draw).slowArrival first)

/-! ## The emergency stop (R170) -/

/-- The arrival of the emergency stop (R170): the raise of ESTOP, then each block's part. -/
def State.estopArrive (s : State) : State :=
  let s1 := State.setCondition { s with inputs := { s.inputs with estop := true } } .estop true
  ((((s1.raise .estop .stop {}).interruptIndex).releaseFires).estopTable).estopHead

/-- The row ESTOP_ARRIVAL: the input becomes active; an input that is active already does not change. -/
def execEstopArrival (s : State) : Host.Outcome State Fault Refusal :=
  .next (if s.inputs.estop then s else s.estopArrive.judge)

/-- The row ESTOP_RELEASE (R170): it ends the condition and changes nothing else. -/
def execEstopRelease (s : State) : Host.Outcome State Fault Refusal :=
  .next (State.setCondition { s with inputs := { s.inputs with estop := false } } .estop false)

/-! ## Commands -/

/-- The permitted debounce times (R167). -/
def debounceOk (tape air guard : Nat) : Bool :=
  [0, 10, 50, 200].contains tape && [100, 1000].contains air && [0, 10, 50].contains guard

/-- The three settings on the link (R167). -/
def State.debounceBytes (s : State) : List Byte :=
  u16 s.inputs.tapeTime ++ u16 s.inputs.airTime ++ u16 s.inputs.guardTime

/-- SET_DEBOUNCE (R167): an arrival whose time has already run under the new settings is made in this event. -/
def actSetDebounce (tape air guard : Nat) (s : State) : Acted :=
  if debounceOk tape air guard then
    let s1 : State :=
      { s with inputs := { s.inputs with tapeTime := tape, airTime := air, guardTime := guard } }
    let due := allSlow.filter s1.arrivalDue
    (takeArrivals due.length due s1).accepts State.debounceBytes
  else s.refuses .badValue

/-- A debounced input on the link (R168): raw state, debounced state. -/
def SlowRec.bytes (r : SlowRec) : List Byte := u8 (if r.raw then 0 else 1) ++ u8 r.state.num

/-- READ_INPUTS (R168). The emergency-stop input is sent as a yes, active, or a no (DESIGN CHOICE, assumption log 14). -/
def actReadInputs (s : State) : Acted :=
  s.answers ((allSlow.flatMap fun i => (s.slow i).bytes) ++ yn s.inputs.estop ++ s.debounceBytes)

/-- The timeouts brought into their ranges (R175). -/
def clampTimeouts (t : Timeouts) : Timeouts :=
  { chain := clampTo 50 2000 t.chain, gate := clampTo 50 1000 t.gate, head := clampTo 100 3000 t.head
    span := clampTo 100 3000 t.span, table := clampTo 200 10000 t.table, conveyor := clampTo 500 30000 t.conveyor
    board := clampTo 1000 60000 t.board }

/-- SET_TIMING (R175). -/
def actSetTiming (t : Timeouts) (s : State) : Acted :=
  ({ s with inputs := { s.inputs with timeouts := clampTimeouts t } } : State).answers
    (timeoutBytes (clampTimeouts t))

/-- The derived state of the BOARD watch and its remaining time (R174). -/
def Inputs.boardWatch (i : Inputs) : WatchState × Nat :=
  match i.transportWait, i.headWait with
  | none, none => (.idle, 0)
  | some t, none => if t.expired then (.expired, 0) else (.running, t.remaining)
  | none, some h => if h.expired then (.expired, 0) else (.running, h.remaining)
  | some t, some h =>
    if t.expired || h.expired then (.expired, 0) else (.running, min t.remaining h.remaining)

/-- A watch on the link (R176): state, remaining time, timeout in force. -/
def watchBytes (st : WatchState) (remaining timeout : Nat) : List Byte := u8 st.num ++ u16 remaining ++ u16 timeout

/-- A wait of the BOARD watch on the link (R174, R176): its state (absent 0, RUNNING 1, EXPIRED 2), its remaining time
and its context. -/
def waitBytes (context : WaitRec → List Byte) (w : Option WaitRec) : List Byte :=
  u8 (w.elim 0 fun r => if r.expired then 2 else 1) ++ u16 (w.elim 0 fun r => if r.expired then 0 else r.remaining)
    ++ opt context w

/-- READ_WATCHES (R176). -/
def actReadWatches (s : State) : Acted :=
  let one (w : WatchId) : List Byte := watchBytes (s.watch w).state (s.watch w).remaining (s.timeout w)
  s.answers ([WatchId.chain, .gate, .head, .span, .table, .conveyor].flatMap one
    ++ watchBytes s.inputs.boardWatch.1 s.inputs.boardWatch.2 s.inputs.timeouts.board
    ++ waitBytes (fun r => u32 r.board) s.inputs.transportWait
    ++ waitBytes (fun r => u32 r.board ++ u16 (r.index.getD 0)) s.inputs.headWait)

end Sys2Proof.Machine
end

