-- ==== Sys2Proof/Machine/AlarmOps.lean ====
section
/-! DEFINITION. The owner's actions of the alarm commands (chapter 10): classes, acknowledgement, the capture record. -/

namespace Sys2Proof.Machine

/-- The four slot classes in their order (R178, R185). -/
def slotBytes (t : Slots) : List Byte := u8 t.guardAir.num ++ u8 t.transport.num ++ u8 t.supply.num ++ u8 t.insert.num

/-- A slot given a class (R177, R178): GUARD_AIR 0, TRANSPORT 1, SUPPLY 2, INSERT 3. -/
def Slots.put (t : Slots) (slot : Nat) (c : AlarmClass) : Option Slots :=
  match slot with
  | 0 => some { t with guardAir := c }
  | 1 => some { t with transport := c }
  | 2 => some { t with supply := c }
  | 3 => some { t with insert := c }
  | _ => none

/-- SET_ALARM_CLASS (R178). -/
def actSetAlarmClass (slot cls : Nat) (s : State) : Acted :=
  if s.working then s.refuses .wrongState
  else
    match (AlarmClass.ofNum cls).bind (s.alarms.slots.put slot) with
    | none => s.refuses .badValue
    | some t => ({ s with alarms := { s.alarms with slots := t } } : State).answers (slotBytes t)

/-- A pending source is left pending by an acknowledgement: a level source whose condition is present (R182). -/
def State.stays (s : State) (src : Source) : Bool := src.level && s.levelCondition src

/-- A source record cleared by an acknowledgement (R182). -/
def SourceRec.cleared (r : SourceRec) : SourceRec := { r with pending := false, cls := .none }

/-- The acknowledgement of one source (R182). -/
def State.ackSource (s : State) (src : Source) : State :=
  if (s.source src).pending && !s.stays src then s.setSource src (s.source src).cleared else s

/-- A source is named by the set: an empty set names all 21 (R182). -/
def namedSource (sources : Nat) (src : Source) : Bool := sources = 0 || sources.testBit src.idx.val

/-- ACK_ALARMS (R182). -/
def actAckAlarms (sources : Nat) (s : State) : Acted :=
  if 2 ^ 21 ≤ sources then s.refuses .badValue
  else
    let named := allSources.filter (namedSource sources)
    (named.foldl State.ackSource s).answers
      (u32 (sourceSet fun src => namedSource sources src && (s.source src).pending && !s.stays src)
        ++ u32 (sourceSet fun src => namedSource sources src && (s.source src).pending && s.stays src))

/-- The capture record in the order of R183, each content field with its presence byte. -/
def captureBytes (c : Capture) : List Byte :=
  yn c.content.isSome ++ opt (fun k => u8 k.source.num) c.content ++ opt (fun k => u8 k.cls.num) c.content
    ++ opt (fun k => u8 k.line.num) c.content ++ opt (fun k => k.context.bytes) c.content
    ++ opt (fun k => u32 k.time) c.content ++ u8 c.overflow

/-- READ_CAPTURE (R184). -/
def actReadCapture (s : State) : Acted := s.answers (captureBytes s.alarms.capture)

/-- CLEAR_CAPTURE (R184). -/
def actClearCapture (s : State) : Acted :=
  ({ s with alarms := { s.alarms with capture := { content := none, overflow := 0 } } } : State).answers []

/-- A source record in READ_ALARMS (R201). -/
def SourceRec.bytes (r : SourceRec) : List Byte :=
  u8 (r.pending.toNat + 2 * r.condition.toNat + 4 * r.cls.num) ++ u8 r.count ++ r.context.bytes

/-- READ_ALARMS (R185). -/
def actReadAlarms (s : State) : Acted :=
  s.answers ((allSources.flatMap fun src => (s.source src).bytes) ++ slotBytes s.alarms.slots
    ++ yn s.alarms.capture.content.isSome)

end Sys2Proof.Machine
end

