-- ==== Sys2Proof/Machine/LineOps.lean ====
section
/-! DEFINITION. The owner's actions of the line commands (chapter 11): RUN, HOLD, STOP, RECOVER, GET_STATUS, RESET. -/

namespace Sys2Proof.Machine

/-- The entry into RUNNING by RUN (R188): the kept move and a halted conveyor run start again in its event, a measurement that
is due starts (R110), and the deferred fires are taken (R90, R94). The gate stroke, the pick, the drive, the discard, the
moves and the conveyor runs that are due start in the same event, by `State.judge`. -/
def State.enterRunning (s : State) : State :=
  ((((s.setLine .running (.command .run)).restartKept).restartConveyor).startMeasurement).fireAll

/-- The entry into HOLDING by HOLD (R189), with the measurement and the fires that are due (R90, R110). A raise of class HOLD
finds none due: in RUNNING each one has been taken in the event that made it due. -/
def State.enterHolding (s : State) : State := ((s.setLine .holding (.command .hold)).startMeasurement).fireAll

/-- RUN (R188). -/
def actRun (s : State) : Acted :=
  match s.line with
  | .ready | .held =>
    if allSources.any s.seriousPending then s.refuses .pendingAlarm (u32 (sourceSet s.seriousPending))
    else s.enterRunning.accepts
  | _ => s.refuses .wrongState

/-- HOLD (R189). -/
def actHold (s : State) : Acted :=
  match s.line with
  | .running => s.enterHolding.accepts fun s => u8 s.line.num
  | _ => s.answers (u8 s.line.num)

/-- STOP (R190). -/
def actStop (s : State) : Acted :=
  match s.line with
  | .stopped => s.refuses .wrongState
  | _ => (s.enterStopped (.command .stop)).accepts

/-- The start of RECOVERING (R192): the parts done become "no", and CHT and HDC take their parts. -/
def State.enterRecovering (s : State) : State :=
  let s1 := s.setLine .recovering (.command .recover)
  let s2 : State :=
    { s1 with alarms := { s1.alarms with line := { s1.alarms.line with
        recovery := some { chain := false, head := false } } } }
  s2.recoverIndex.recoverHead

/-- The conditions that refuse RECOVER (R192). -/
def State.barsRecovery (s : State) (src : Source) : Bool :=
  (src = .estop || src = .airLow) && s.levelCondition src

/-- RECOVER (R192). -/
def actRecover (s : State) : Acted :=
  match s.line with
  | .stopped =>
    if allSources.any s.barsRecovery then s.refuses .conditionPresent (u32 (sourceSet s.barsRecovery))
    else s.enterRecovering.accepts
  | _ => s.refuses .wrongState

/-- The readiness fields in their order (R186, R194). -/
def Line.bytes (l : Line) : List Byte :=
  yn l.programLoaded ++ yn l.homedX ++ yn l.homedY ++ yn l.homedR ++ yn l.homedSpan ++ yn l.headHalted

/-- A slot in GET_STATUS: empty, or board id, phase, fenced, completing and the entries not yet terminal (R194). -/
def slotSummary (b : Option Board) : List Byte :=
  opt (fun b => u32 b.id ++ u8 b.phase.num ++ yn b.fenced ++ yn b.completing
    ++ u16 (b.entries.countP fun e => !e.status.terminal)) b

/-- The link counters in their order (R204). -/
def counterBytes (c : LinkCounters) : List Byte :=
  u32 c.accepted ++ u32 c.checkErrors ++ u32 c.lengthErrors ++ u32 c.gapTimeouts ++ u32 c.foreignKinds
    ++ u32 c.inputOverruns ++ u32 c.reportsLost

/-- The pending set: each pending source with its class raised (R194). -/
def State.pendingBytes (s : State) : List Byte :=
  counted (fun src => u8 src.num ++ u8 (s.source src).cls.num) (allSources.filter fun src => (s.source src).pending)

/-- GET_STATUS (R194). -/
def actGetStatus (s : State) : Acted :=
  s.answers (u8 s.line.num ++ s.alarms.line.bytes ++ u8 s.programs.store.num ++ slotSummary s.boards.active
    ++ slotSummary s.boards.next ++ u8 s.boards.queue.length ++ s.pendingBytes
    ++ yn s.alarms.capture.content.isSome ++ u8 s.alarms.line.cause.num ++ counterBytes s.link.counters
    ++ u32 s.clock)

/-- RESET (R195): from its acceptance on, no further command is taken. -/
def actReset (s : State) : Acted :=
  ({ s with link := { s.link with resetAccepted := true } } : State).answers []

end Sys2Proof.Machine
end

