-- ==== Sys2Proof/Machine/Link.lean ====
section
/-! DEFINITION. The message link (chapter 12): the taking of commands and their replies, the receiver, the transmitter,
and the resets (R195). -/

namespace Sys2Proof.Machine

/-! ## Taking commands (R199) -/

/-- The owner's checks and action for a command (R199). A command that is no frame of the catalogue has no owner. -/
def act : Instr → State → Acted
  | .readChain _ => actReadChain
  | .readPocket _ p => actReadPocket p
  | .loadStation _ k c l => actLoadStation k c l
  | .lockStation _ k => actLockStation k
  | .unlockStation _ k => actUnlockStation k
  | .resetStation _ k => actResetStation k
  | .readStation _ k => actReadStation k
  | .setStationGroup _ g e b m c => actSetStationGroup g e b m c
  | .defineCode _ f => actDefineCode f
  | .removeCode _ c => actRemoveCode c
  | .readCode _ c => actReadCode c
  | .programBegin _ p n m o l => actProgramBegin p n m o l
  | .programSteps _ n l => actProgramSteps n l
  | .programEnd _ => actProgramEnd
  | .programClear _ => actProgramClear
  | .readProgram _ => actReadProgram
  | .announceBoard _ b p m => actAnnounceBoard b p m
  | .skipStep _ b i n => actSkipStep b i n
  | .disposeStep _ b i n d => actDisposeStep b i n d
  | .abandonBoard _ b => actAbandonBoard b
  | .readBoard _ n i => actReadBoard n i
  | .setFireDwell _ d => actSetFireDwell d
  | .readAssignment _ => actReadAssignment
  | .setFailThreshold _ n => actSetFailThreshold n
  | .readVerifier _ => actReadVerifier
  | .home _ a => actHome a
  | .setGeometry _ g => actSetGeometry g
  | .readTable _ => actReadTable
  | .readHead _ => actReadHead
  | .readConveyor _ => actReadConveyor
  | .setDebounce _ a b c => actSetDebounce a b c
  | .readInputs _ => actReadInputs
  | .setTiming _ t => actSetTiming t
  | .readWatches _ => actReadWatches
  | .setAlarmClass _ n c => actSetAlarmClass n c
  | .ackAlarms _ n => actAckAlarms n
  | .readCapture _ => actReadCapture
  | .clearCapture _ => actClearCapture
  | .readAlarms _ => actReadAlarms
  | .run _ => actRun
  | .hold _ => actHold
  | .stop _ => actStop
  | .recover _ => actRecover
  | .getStatus _ => actGetStatus
  | .reset _ => actReset
  | _ => fun s => s.refuses .unknownKind

/-- A command taken: the owner's action with the reports of its event, then the reply (R199, R200). -/
def State.answer (s : State) (kind tag : Byte) (f : State → Acted) : State :=
  (f s).1.reply kind tag (f s).2.payload

/-- A frame taken from the input queue (R199). -/
def State.perform (s : State) (f : Frame) : State :=
  match readFrame f with
  | .unknownKind => s.answer f.kind f.tag fun s => s.refuses .unknownKind
  | .badLength => s.answer f.kind f.tag fun s => s.refuses .badLength
  | .command i => s.answer f.kind f.tag (act i)

/-- MLK takes commands: fewer than 16 frames are queued for output and no RESET has been accepted (R199). -/
def State.takes (s : State) : Bool := decide (s.link.output.length < 16) && !s.link.resetAccepted

/-- Commands are taken from the head of the input queue while they can be (R199). -/
def drain : Nat → State → State
  | 0, s => s
  | n + 1, s =>
    match s.link.input with
    | [] => s
    | f :: rest =>
      if s.takes then drain n (State.perform { s with link := { s.link with input := rest } } f) else s

/-- A frame accepted is counted (R198, R204). -/
def State.countAccepted (s : State) : State :=
  { s with link := { s.link with counters :=
      { s.link.counters with accepted := wrapInc s.link.counters.accepted } } }

/-- A well-formed frame that finds two frames queued (R198). -/
def State.overrun (s : State) : State :=
  { s with link := { s.link with counters :=
      { s.link.counters with inputOverruns := wrapInc s.link.counters.inputOverruns } } }

/-- A well-formed frame joins the tail of the input queue, or overruns it (R198). -/
def State.enqueue (s : State) (f : Frame) : State :=
  if s.link.input.length < 2 then
    let s1 := s.countAccepted
    let s2 : State := { s1 with link := { s1.link with input := s1.link.input ++ [f] } }
    drain s2.link.input.length s2
  else s.overrun

/-- A kind MLK counts as foreign: outside 01h..3Fh (R198). -/
def foreign (kind : Byte) : Bool := !within 0x01 0x3F kind.toNat

/-- A frame whose check agrees (R198). -/
def State.receive (s : State) (f : Frame) : State :=
  if foreign f.kind then
    { s with link := { s.link with counters :=
        { s.link.counters with foreignKinds := wrapInc s.link.counters.foreignKinds } } }
  else s.enqueue f

/-- A command of the catalogue arrives as its frame (DESIGN CHOICE, assumption log 5): it is taken in the event of its arrival when
the input queue is empty and MLK takes commands (R199), and joins the queue otherwise. -/
def State.command (s : State) (i : Instr) (kind tag : Byte) : State :=
  if s.link.input = [] ∧ s.takes then s.countAccepted.answer kind tag (act i)
  else
    match frameOf i with
    | some f => s.enqueue f
    | none => s

/-! ## The receiver (R196, R198) -/

/-- A frame dropped with a count, the receiver HUNTING (R198). -/
def State.dropFrame (s : State) (f : LinkCounters → LinkCounters) : State :=
  { s with link := { s.link with receiver := .hunting, counters := f s.link.counters } }

def LinkCounters.gap (c : LinkCounters) : LinkCounters := { c with gapTimeouts := wrapInc c.gapTimeouts }

def LinkCounters.badLen (c : LinkCounters) : LinkCounters := { c with lengthErrors := wrapInc c.lengthErrors }

def LinkCounters.badCheck (c : LinkCounters) : LinkCounters := { c with checkErrors := wrapInc c.checkErrors }

/-- A byte in HUNTING (R198). -/
def State.huntByte (s : State) (b : Byte) : State :=
  if b = 0x7E#8 then { s with link := { s.link with receiver := .inFrame [] 0 } } else s

/-- The body length gathered: byte 1 of the frame. -/
def bodyLength (bytes : List Byte) : Nat := (bytes.head?.map BitVec.toNat).getD 0

/-- A byte gathered in IN_FRAME (R198); `bytes` are those after the start mark, the new one included. -/
def State.gather (s : State) (bytes : List Byte) : State :=
  if bytes.length = 1 ∧ !within 2 250 (bodyLength bytes) then s.dropFrame LinkCounters.badLen
  else if bytes.length = bodyLength bytes + 3 then
    match frameOfBytes bytes with
    | none => s.dropFrame LinkCounters.badCheck
    | some f => State.receive { s with link := { s.link with receiver := .hunting } } f
  else { s with link := { s.link with receiver := .inFrame bytes 0 } }

/-- A byte received (R198). One that comes more than 10 ms after the byte before it ends the frame by the gap, and is
taken in HUNTING. -/
def State.receiveByte (s : State) (b : Byte) : State :=
  match s.link.receiver with
  | .hunting => s.huntByte b
  | .inFrame bytes since =>
    if 10 < since then (s.dropFrame LinkCounters.gap).huntByte b else s.gather (bytes ++ [b])

/-- The row RX_CHARACTER. A character with a missing stop bit has not arrived (R196). -/
def execRxCharacter (byte : Byte) (stopBit : Bool) (s : State) : Host.Outcome State Fault Refusal :=
  .next (if stopBit then s.receiveByte byte else s)

/-- More than 10 ms have passed since the last byte of the frame being gathered (R198). -/
def State.gapDue (s : State) : Bool :=
  match s.link.receiver with
  | .inFrame _ since => decide (10 < since)
  | .hunting => false

/-- The row GAP_TIMEOUT. -/
def execGapTimeout (s : State) : Host.Outcome State Fault Refusal :=
  .next (if s.gapDue then s.dropFrame LinkCounters.gap else s)

/-! ## Reset and the transmitter (R195, R200, R204) -/

/-- A reset that ends with the inputs at the given levels. If the emergency-stop input is active, its arrival is the
first event after the reset, and it is taken with it (R170; DESIGN CHOICE, assumption log 6). -/
def State.resetWith (s : State) (cause : ResetCause) (lv : Levels) : State :=
  let s1 := State.afterReset cause lv s.drawn s.pending
  if lv.estop then s1.estopArrive.judge else s1

/-- The row POWER_ON. -/
def execPowerOn (levels : Levels) (s : State) : Host.Outcome State Fault Refusal := .next (s.resetWith .powerOn levels)

/-- The row RESET_PIN. -/
def execResetPin (levels : Levels) (s : State) : Host.Outcome State Fault Refusal := .next (s.resetWith .resetPin levels)

/-- The input levels as they stand, with the straps as they are read at the end of a reset (R195, R196). -/
def State.levels (s : State) (baud1 baud0 : Bool) : Levels :=
  { pins := { s.pins with baud1 := baud1, baud0 := baud0 }
    tapes := (List.finRange 80).foldl (fun v k => if (vget s.inputs.tapes k).raw then v ||| (1#80 <<< k.val) else v) 0
    airOk := s.inputs.airOk.raw, guardClosed := s.inputs.guardClosed.raw, estop := s.inputs.estop }

/-- The reply to an accepted RESET (R195, R199). -/
def Frame.isResetReply (f : Frame) : Bool := f.kind = 0xAD#8 && f.payload = [0x00#8]

/-- The frame at the head of the output queue has been sent (R195, R199, R200). -/
def State.sent (s : State) (baud1 baud0 : Bool) : State :=
  match s.link.output with
  | [] => s
  | f :: rest =>
    if s.link.resetAccepted && f.isResetReply then s.resetWith .resetCommand (s.levels baud1 baud0)
    else
      let s1 : State := { s with link := { s.link with output := rest } }
      drain s1.link.input.length s1

/-- The row FRAME_SENT, with the straps as they stand (they are read only where the reset is taken). -/
def execFrameSent (baud1 baud0 : Bool) (s : State) : Host.Outcome State Fault Refusal := .next (s.sent baud1 baud0)

/-- The row UNKNOWN_KIND_COMMAND: a frame of this kind, tag and payload arrives, and is judged when it is taken
(R199). -/
def execUnknownKindCommand (kind tag : Byte) (payload : List Byte) (s : State) : Host.Outcome State Fault Refusal :=
  .next (s.receive { kind := kind, tag := tag, payload := payload })

end Sys2Proof.Machine
end

