-- ==== Sys2Proof/Machine/HostCommands.lean ====
section
/-! DEFINITION. The rows of the host commands: each arrives as its frame, is taken by MLK when it can be, and is judged
and answered by its owner (R198, R199, section 12.6). -/

namespace Sys2Proof.Machine

/-- The row READ_CHAIN (R21; kind 01h). -/
def execReadChain (tag : Byte) (s : State) : Host.Outcome State Fault Refusal :=
  .next (s.command (.readChain tag) 0x01#8 tag)

/-- The row READ_POCKET (R22; kind 02h). -/
def execReadPocket (tag : Byte) (pocket : Nat) (s : State) : Host.Outcome State Fault Refusal :=
  .next (s.command (.readPocket tag pocket) 0x02#8 tag)

/-- The row LOAD_STATION (R29; kind 03h). -/
def execLoadStation (tag : Byte) (station count low : Nat) (s : State) : Host.Outcome State Fault Refusal :=
  .next (s.command (.loadStation tag station count low) 0x03#8 tag)

/-- The row LOCK_STATION (R30; kind 04h). -/
def execLockStation (tag : Byte) (station : Nat) (s : State) : Host.Outcome State Fault Refusal :=
  .next (s.command (.lockStation tag station) 0x04#8 tag)

/-- The row UNLOCK_STATION (R31; kind 05h). -/
def execUnlockStation (tag : Byte) (station : Nat) (s : State) : Host.Outcome State Fault Refusal :=
  .next (s.command (.unlockStation tag station) 0x05#8 tag)

/-- The row RESET_STATION (R32; kind 06h). -/
def execResetStation (tag : Byte) (station : Nat) (s : State) : Host.Outcome State Fault Refusal :=
  .next (s.command (.resetStation tag station) 0x06#8 tag)

/-- The row READ_STATION (R36; kind 07h). -/
def execReadStation (tag : Byte) (station : Nat) (s : State) : Host.Outcome State Fault Refusal :=
  .next (s.command (.readStation tag station) 0x07#8 tag)

/-- The row SET_STATION_GROUP (R38; kind 08h). -/
def execSetStationGroup (tag : Byte) (group enable base mask cls : Nat) (s : State) :
    Host.Outcome State Fault Refusal :=
  .next (s.command (.setStationGroup tag group enable base mask cls) 0x08#8 tag)

/-- The row DEFINE_CODE (R41; kind 09h). -/
def execDefineCode (tag : Byte) (fields : CodeFields) (s : State) : Host.Outcome State Fault Refusal :=
  .next (s.command (.defineCode tag fields) 0x09#8 tag)

/-- The row REMOVE_CODE (R42; kind 0Ah). -/
def execRemoveCode (tag : Byte) (code : Nat) (s : State) : Host.Outcome State Fault Refusal :=
  .next (s.command (.removeCode tag code) 0x0A#8 tag)

/-- The row READ_CODE (R43; kind 0Bh). -/
def execReadCode (tag : Byte) (code : Nat) (s : State) : Host.Outcome State Fault Refusal :=
  .next (s.command (.readCode tag code) 0x0B#8 tag)

/-- The row PROGRAM_BEGIN (R47; kind 0Ch). -/
def execProgramBegin (tag : Byte) (product steps images order : Nat) (offsets : List (Nat × Nat))
    (s : State) : Host.Outcome State Fault Refusal :=
  .next (s.command (.programBegin tag product steps images order offsets) 0x0C#8 tag)

/-- The row PROGRAM_STEPS (R48; kind 0Dh). -/
def execProgramSteps (tag : Byte) (first : Nat) (records : List StepRecord) (s : State) :
    Host.Outcome State Fault Refusal :=
  .next (s.command (.programSteps tag first records) 0x0D#8 tag)

/-- The row PROGRAM_END (R50; kind 0Eh). -/
def execProgramEnd (tag : Byte) (s : State) : Host.Outcome State Fault Refusal :=
  .next (s.command (.programEnd tag) 0x0E#8 tag)

/-- The row PROGRAM_CLEAR (R59; kind 0Fh). -/
def execProgramClear (tag : Byte) (s : State) : Host.Outcome State Fault Refusal :=
  .next (s.command (.programClear tag) 0x0F#8 tag)

/-- The row READ_PROGRAM (R61; kind 10h). -/
def execReadProgram (tag : Byte) (s : State) : Host.Outcome State Fault Refusal :=
  .next (s.command (.readProgram tag) 0x10#8 tag)

/-- The row ANNOUNCE_BOARD (R64; kind 11h). -/
def execAnnounceBoard (tag : Byte) (board product mask : Nat) (s : State) : Host.Outcome State Fault Refusal :=
  .next (s.command (.announceBoard tag board product mask) 0x11#8 tag)

/-- The row SKIP_STEP (R73; kind 12h). -/
def execSkipStep (tag : Byte) (board image stepIndex : Nat) (s : State) : Host.Outcome State Fault Refusal :=
  .next (s.command (.skipStep tag board image stepIndex) 0x12#8 tag)

/-- The row DISPOSE_STEP (R74; kind 13h). -/
def execDisposeStep (tag : Byte) (board image stepIndex disposition : Nat) (s : State) :
    Host.Outcome State Fault Refusal :=
  .next (s.command (.disposeStep tag board image stepIndex disposition) 0x13#8 tag)

/-- The row ABANDON_BOARD (R75; kind 14h). -/
def execAbandonBoard (tag : Byte) (board : Nat) (s : State) : Host.Outcome State Fault Refusal :=
  .next (s.command (.abandonBoard tag board) 0x14#8 tag)

/-- The row READ_BOARD (R79; kind 15h). -/
def execReadBoard (tag : Byte) (slot : Nat) (index : Option Nat) (s : State) : Host.Outcome State Fault Refusal :=
  .next (s.command (.readBoard tag slot index) 0x15#8 tag)

/-- The row SET_FIRE_DWELL (R93; kind 16h). -/
def execSetFireDwell (tag : Byte) (dwell : Nat) (s : State) : Host.Outcome State Fault Refusal :=
  .next (s.command (.setFireDwell tag dwell) 0x16#8 tag)

/-- The row READ_ASSIGNMENT (R101; kind 17h). -/
def execReadAssignment (tag : Byte) (s : State) : Host.Outcome State Fault Refusal :=
  .next (s.command (.readAssignment tag) 0x17#8 tag)

/-- The row SET_FAIL_THRESHOLD (R117; kind 18h). -/
def execSetFailThreshold (tag : Byte) (threshold : Nat) (s : State) : Host.Outcome State Fault Refusal :=
  .next (s.command (.setFailThreshold tag threshold) 0x18#8 tag)

/-- The row READ_VERIFIER (R118; kind 19h). -/
def execReadVerifier (tag : Byte) (s : State) : Host.Outcome State Fault Refusal :=
  .next (s.command (.readVerifier tag) 0x19#8 tag)

/-- The row HOME (R121; kind 1Ah). -/
def execHome (tag : Byte) (axes : Nat) (s : State) : Host.Outcome State Fault Refusal :=
  .next (s.command (.home tag axes) 0x1A#8 tag)

/-- The row SET_GEOMETRY (R125; kind 1Bh). -/
def execSetGeometry (tag : Byte) (g : Geometry) (s : State) : Host.Outcome State Fault Refusal :=
  .next (s.command (.setGeometry tag g) 0x1B#8 tag)

/-- The row READ_TABLE (R137; kind 1Ch). -/
def execReadTable (tag : Byte) (s : State) : Host.Outcome State Fault Refusal :=
  .next (s.command (.readTable tag) 0x1C#8 tag)

/-- The row READ_HEAD (R155; kind 1Dh). -/
def execReadHead (tag : Byte) (s : State) : Host.Outcome State Fault Refusal :=
  .next (s.command (.readHead tag) 0x1D#8 tag)

/-- The row READ_CONVEYOR (R165; kind 1Eh). -/
def execReadConveyor (tag : Byte) (s : State) : Host.Outcome State Fault Refusal :=
  .next (s.command (.readConveyor tag) 0x1E#8 tag)

/-- The row SET_DEBOUNCE (R167; kind 1Fh). -/
def execSetDebounce (tag : Byte) (tape air guard : Nat) (s : State) : Host.Outcome State Fault Refusal :=
  .next (s.command (.setDebounce tag tape air guard) 0x1F#8 tag)

/-- The row READ_INPUTS (R168; kind 20h). -/
def execReadInputs (tag : Byte) (s : State) : Host.Outcome State Fault Refusal :=
  .next (s.command (.readInputs tag) 0x20#8 tag)

/-- The row SET_TIMING (R175; kind 21h). -/
def execSetTiming (tag : Byte) (t : Timeouts) (s : State) : Host.Outcome State Fault Refusal :=
  .next (s.command (.setTiming tag t) 0x21#8 tag)

/-- The row READ_WATCHES (R176; kind 22h). -/
def execReadWatches (tag : Byte) (s : State) : Host.Outcome State Fault Refusal :=
  .next (s.command (.readWatches tag) 0x22#8 tag)

/-- The row SET_ALARM_CLASS (R178; kind 23h). -/
def execSetAlarmClass (tag : Byte) (slot cls : Nat) (s : State) : Host.Outcome State Fault Refusal :=
  .next (s.command (.setAlarmClass tag slot cls) 0x23#8 tag)

/-- The row ACK_ALARMS (R182; kind 24h). -/
def execAckAlarms (tag : Byte) (sources : Nat) (s : State) : Host.Outcome State Fault Refusal :=
  .next (s.command (.ackAlarms tag sources) 0x24#8 tag)

/-- The row READ_CAPTURE (R184; kind 25h). -/
def execReadCapture (tag : Byte) (s : State) : Host.Outcome State Fault Refusal :=
  .next (s.command (.readCapture tag) 0x25#8 tag)

/-- The row CLEAR_CAPTURE (R184; kind 26h). -/
def execClearCapture (tag : Byte) (s : State) : Host.Outcome State Fault Refusal :=
  .next (s.command (.clearCapture tag) 0x26#8 tag)

/-- The row READ_ALARMS (R185; kind 27h). -/
def execReadAlarms (tag : Byte) (s : State) : Host.Outcome State Fault Refusal :=
  .next (s.command (.readAlarms tag) 0x27#8 tag)

/-- The row RUN (R188; kind 28h). -/
def execRun (tag : Byte) (s : State) : Host.Outcome State Fault Refusal :=
  .next (s.command (.run tag) 0x28#8 tag)

/-- The row HOLD (R189; kind 29h). -/
def execHold (tag : Byte) (s : State) : Host.Outcome State Fault Refusal :=
  .next (s.command (.hold tag) 0x29#8 tag)

/-- The row STOP (R190; kind 2Ah). -/
def execStop (tag : Byte) (s : State) : Host.Outcome State Fault Refusal :=
  .next (s.command (.stop tag) 0x2A#8 tag)

/-- The row RECOVER (R192; kind 2Bh). -/
def execRecover (tag : Byte) (s : State) : Host.Outcome State Fault Refusal :=
  .next (s.command (.recover tag) 0x2B#8 tag)

/-- The row GET_STATUS (R194; kind 2Ch). -/
def execGetStatus (tag : Byte) (s : State) : Host.Outcome State Fault Refusal :=
  .next (s.command (.getStatus tag) 0x2C#8 tag)

/-- The row RESET (R195; kind 2Dh). -/
def execReset (tag : Byte) (s : State) : Host.Outcome State Fault Refusal :=
  .next (s.command (.reset tag) 0x2D#8 tag)

end Sys2Proof.Machine
end

