-- ==== Sys2Proof/Machine/Dispatch.lean ====
section
/-! DEFINITION. The dispatch: one arm for each row of the opcode table, each one direct call of its meaning. -/

namespace Sys2Proof.Machine

/-- The effect of a command on everything but the queue of waiting commands. -/
def exec (i : Instr) (s : State) : Host.Outcome State Fault Refusal :=
  match i with
  | .readChain tag => Sys2Proof.Machine.execReadChain tag s
  | .readPocket tag pocket => Sys2Proof.Machine.execReadPocket tag pocket s
  | .loadStation tag station count low => Sys2Proof.Machine.execLoadStation tag station count low s
  | .lockStation tag station => Sys2Proof.Machine.execLockStation tag station s
  | .unlockStation tag station => Sys2Proof.Machine.execUnlockStation tag station s
  | .resetStation tag station => Sys2Proof.Machine.execResetStation tag station s
  | .readStation tag station => Sys2Proof.Machine.execReadStation tag station s
  | .setStationGroup tag group enable base mask cls => Sys2Proof.Machine.execSetStationGroup tag group enable base mask cls s
  | .defineCode tag fields => Sys2Proof.Machine.execDefineCode tag fields s
  | .removeCode tag code => Sys2Proof.Machine.execRemoveCode tag code s
  | .readCode tag code => Sys2Proof.Machine.execReadCode tag code s
  | .programBegin tag product steps images order offsets => Sys2Proof.Machine.execProgramBegin tag product steps images order offsets s
  | .programSteps tag first records => Sys2Proof.Machine.execProgramSteps tag first records s
  | .programEnd tag => Sys2Proof.Machine.execProgramEnd tag s
  | .programClear tag => Sys2Proof.Machine.execProgramClear tag s
  | .readProgram tag => Sys2Proof.Machine.execReadProgram tag s
  | .announceBoard tag board product mask => Sys2Proof.Machine.execAnnounceBoard tag board product mask s
  | .skipStep tag board image stepIndex => Sys2Proof.Machine.execSkipStep tag board image stepIndex s
  | .disposeStep tag board image stepIndex disposition => Sys2Proof.Machine.execDisposeStep tag board image stepIndex disposition s
  | .abandonBoard tag board => Sys2Proof.Machine.execAbandonBoard tag board s
  | .readBoard tag slot index => Sys2Proof.Machine.execReadBoard tag slot index s
  | .setFireDwell tag dwell => Sys2Proof.Machine.execSetFireDwell tag dwell s
  | .readAssignment tag => Sys2Proof.Machine.execReadAssignment tag s
  | .setFailThreshold tag threshold => Sys2Proof.Machine.execSetFailThreshold tag threshold s
  | .readVerifier tag => Sys2Proof.Machine.execReadVerifier tag s
  | .home tag axes => Sys2Proof.Machine.execHome tag axes s
  | .setGeometry tag g => Sys2Proof.Machine.execSetGeometry tag g s
  | .readTable tag => Sys2Proof.Machine.execReadTable tag s
  | .readHead tag => Sys2Proof.Machine.execReadHead tag s
  | .readConveyor tag => Sys2Proof.Machine.execReadConveyor tag s
  | .setDebounce tag tape air guard => Sys2Proof.Machine.execSetDebounce tag tape air guard s
  | .readInputs tag => Sys2Proof.Machine.execReadInputs tag s
  | .setTiming tag t => Sys2Proof.Machine.execSetTiming tag t s
  | .readWatches tag => Sys2Proof.Machine.execReadWatches tag s
  | .setAlarmClass tag slot cls => Sys2Proof.Machine.execSetAlarmClass tag slot cls s
  | .ackAlarms tag sources => Sys2Proof.Machine.execAckAlarms tag sources s
  | .readCapture tag => Sys2Proof.Machine.execReadCapture tag s
  | .clearCapture tag => Sys2Proof.Machine.execClearCapture tag s
  | .readAlarms tag => Sys2Proof.Machine.execReadAlarms tag s
  | .run tag => Sys2Proof.Machine.execRun tag s
  | .hold tag => Sys2Proof.Machine.execHold tag s
  | .stop tag => Sys2Proof.Machine.execStop tag s
  | .recover tag => Sys2Proof.Machine.execRecover tag s
  | .getStatus tag => Sys2Proof.Machine.execGetStatus tag s
  | .reset tag => Sys2Proof.Machine.execReset tag s
  | .unknownKindCommand kind tag payload => Sys2Proof.Machine.execUnknownKindCommand kind tag payload s
  | .rxCharacter byte stopBit => Sys2Proof.Machine.execRxCharacter byte stopBit s
  | .gapTimeout => Sys2Proof.Machine.execGapTimeout s
  | .frameSent baud1 baud0 => Sys2Proof.Machine.execFrameSent baud1 baud0 s
  | .powerOn levels => Sys2Proof.Machine.execPowerOn levels s
  | .resetPin levels => Sys2Proof.Machine.execResetPin levels s
  | .indexRequest => Sys2Proof.Machine.execIndexRequest s
  | .indexCompletion seen => Sys2Proof.Machine.execIndexCompletion seen s
  | .chainJam => Sys2Proof.Machine.execChainJam s
  | .assignment pocket => Sys2Proof.Machine.execAssignment pocket s
  | .fire station => Sys2Proof.Machine.execFire station s
  | .fireDwellEnd station => Sys2Proof.Machine.execFireDwellEnd station s
  | .gateStrokeStart => Sys2Proof.Machine.execGateStrokeStart s
  | .gateStrokeCompletion => Sys2Proof.Machine.execGateStrokeCompletion s
  | .gateJam => Sys2Proof.Machine.execGateJam s
  | .measurementStart => Sys2Proof.Machine.execMeasurementStart s
  | .measurementCompletion forward reverse => Sys2Proof.Machine.execMeasurementCompletion forward reverse s
  | .homeSwitchArrival axis made => Sys2Proof.Machine.execHomeSwitchArrival axis made s
  | .homingParkSettled axis => Sys2Proof.Machine.execHomingParkSettled axis s
  | .tableTimeout => Sys2Proof.Machine.execTableTimeout s
  | .encoderCount axis positive steps => Sys2Proof.Machine.execEncoderCount axis positive steps s
  | .entryMoveStart => Sys2Proof.Machine.execEntryMoveStart s
  | .loadMoveStart => Sys2Proof.Machine.execLoadMoveStart s
  | .axisProfileComplete axis => Sys2Proof.Machine.execAxisProfileComplete axis s
  | .axisDecelerated axis rest => Sys2Proof.Machine.execAxisDecelerated axis rest s
  | .tablePositioned => Sys2Proof.Machine.execTablePositioned s
  | .pickStart => Sys2Proof.Machine.execPickStart s
  | .pickCompletion => Sys2Proof.Machine.execPickCompletion s
  | .formCompletion => Sys2Proof.Machine.execFormCompletion s
  | .driveStart => Sys2Proof.Machine.execDriveStart s
  | .leadSensorArrival side => Sys2Proof.Machine.execLeadSensorArrival side s
  | .driveCompletion => Sys2Proof.Machine.execDriveCompletion s
  | .clinchCompletion cutLeft cutRight => Sys2Proof.Machine.execClinchCompletion cutLeft cutRight s
  | .clinchHomeArrival made => Sys2Proof.Machine.execClinchHomeArrival made s
  | .headTopArrival made => Sys2Proof.Machine.execHeadTopArrival made s
  | .discardStart => Sys2Proof.Machine.execDiscardStart s
  | .jawsOpenArrival made => Sys2Proof.Machine.execJawsOpenArrival made s
  | .headJam => Sys2Proof.Machine.execHeadJam s
  | .spanTimeout => Sys2Proof.Machine.execSpanTimeout s
  | .loadStart => Sys2Proof.Machine.execLoadStart s
  | .entrySensorArrival made => Sys2Proof.Machine.execEntrySensorArrival made s
  | .stopSensorArrival made => Sys2Proof.Machine.execStopSensorArrival made s
  | .clampClosedArrival made => Sys2Proof.Machine.execClampClosedArrival made s
  | .unloadStart => Sys2Proof.Machine.execUnloadStart s
  | .clampOpenArrival made => Sys2Proof.Machine.execClampOpenArrival made s
  | .exitRunStart => Sys2Proof.Machine.execExitRunStart s
  | .exitSensorArrival made => Sys2Proof.Machine.execExitSensorArrival made s
  | .conveyorJam => Sys2Proof.Machine.execConveyorJam s
  | .boardLate wait => Sys2Proof.Machine.execBoardLate wait s
  | .rawInputChange input made => Sys2Proof.Machine.execRawInputChange input made s
  | .debouncedArrival input => Sys2Proof.Machine.execDebouncedArrival input s
  | .estopArrival => Sys2Proof.Machine.execEstopArrival s
  | .estopRelease => Sys2Proof.Machine.execEstopRelease s

end Sys2Proof.Machine
end

