-- ==== Sys2Proof/Machine/Time.lean ====
section
/-! DEFINITION. Time (DESIGN CHOICE, assumption log 3): what one ms does, and which of the controller's own steps is due. -/

namespace Sys2Proof.Machine

/-- One ms of a watch (R171). -/
def Watch.tick (w : Watch) : Watch := if w.state = .running then { w with remaining := w.remaining - 1 } else w

/-- One ms of a wait of the BOARD watch (R174). -/
def WaitRec.tick (r : WaitRec) : WaitRec := if r.expired then r else { r with remaining := r.remaining - 1 }

/-- One ms of a debounced input (R166). No debounce time is above 1000 ms, so the count is held
there (DESIGN CHOICE, assumption log 24). -/
def SlowRec.tick (r : SlowRec) : SlowRec := { r with since := min 1000 (r.since + 1) }

/-- One ms of the units of WCH. -/
def Inputs.tick (i : Inputs) : Inputs :=
  { i with
    tapes := vmap SlowRec.tick i.tapes, airOk := i.airOk.tick, guardClosed := i.guardClosed.tick
    chain := i.chain.tick, gate := i.gate.tick, head := i.head.tick, span := i.span.tick, table := i.table.tick
    conveyor := i.conveyor.tick
    transportWait := i.transportWait.map WaitRec.tick, headWait := i.headWait.map WaitRec.tick }

/-- One ms of a fire dwell (R90, R92). -/
def FireUnit.tick (f : FireUnit) : FireUnit := { f with dwell := f.dwell.map (· - 1) }

/-- One ms of a parking table axis (R122). -/
def AxisRec.tick (a : AxisRec) : AxisRec := { a with parked := a.parked.map (· + 1) }

/-- One ms of the table (R122, R132). -/
def Table.tick (t : Table) : Table :=
  { t with x := t.x.tick, y := t.y.tick, r := t.r.tick, settle := t.settle.map (· + 1) }

/-- One ms of the measurement in flight (R106). -/
def Verifier.tick (v : Verifier) : Verifier :=
  { v with flight := v.flight.map fun m => { m with remaining := m.remaining - 1 } }

/-- One ms of the receiver (R198). -/
def Receiver.tick : Receiver → Receiver
  | .hunting => .hunting
  | .inFrame bytes since => .inFrame bytes (min 11 (since + 1))

/-- The steps of one ms: a free number to each axis, whether or not its encoder moves (R120; DESIGN CHOICE, assumption log
17). -/
def State.issueSteps (s : State) : State :=
  let steps (a : Axis) : Int := Config.stepsIssued s.drawn (axisNum a)
  State.draw { s with
    table := { s.table with
      x := s.table.x.issue (steps .x), y := s.table.y.issue (steps .y), r := s.table.r.issue (steps .r) }
    head := { s.head with span := s.head.span.issue (steps .span) } }

/-- One ms passes: the time stamp counts (R194), and so does every running time; the axes that travel take their steps. -/
def State.tick (s : State) : State :=
  State.issueSteps { s with
    clock := wrapInc s.clock
    stations := { s.stations with fires := vmap FireUnit.tick s.stations.fires }
    verifier := s.verifier.tick
    table := s.table.tick
    inputs := s.inputs.tick
    link := { s.link with receiver := s.link.receiver.tick } }

/-- The starts of operations that are due, in the order the model takes them (DESIGN CHOICE, assumption log 3). -/
def State.dueStart (s : State) : Option Instr :=
  if s.entryMoveDue.isSome then some .entryMoveStart
  else if s.loadMoveDue then some .loadMoveStart
  else if s.pickDue then some .pickStart
  else if s.driveDue then some .driveStart
  else if s.discardDue then some .discardStart
  else if s.loadDue then some .loadStart
  else if s.unloadDue then some .unloadStart
  else if s.exitRunDue then some .exitRunStart
  else if s.verifyWanted && s.verifier.flight.isNone then some .measurementStart
  else if s.gateDue then some .gateStrokeStart
  else if s.assignmentDue then some (.assignment (s.pocketAt 0))
  else
    match (List.finRange 80).find? fun k => s.fireDue k with
    | some k => some (.fire k)
    | none => if s.indexDue then some .indexRequest else none

/-- The duration of the measurement in flight has passed, so it completes (R106, R110). -/
def State.measurementDue (s : State) : Bool := s.verifier.flight.any fun m => m.remaining = 0

/-- The completion on time of the measurement in flight, for which no row brought the converter counts: they are free values
(DESIGN CHOICE, assumption log 42). -/
def State.timelyCompletion (s : State) : Instr :=
  .measurementCompletion (Config.converterCounts s.drawn).1.toNat (Config.converterCounts s.drawn).2.toNat

/-- The ends that time brings, in the order the model takes them (DESIGN CHOICE, assumption log 3). -/
def State.dueEnd (s : State) : Option Instr :=
  if s.positionDue then some .tablePositioned
  else if s.measurementDue then some s.timelyCompletion
  else
    match [Axis.x, .y, .r].find? fun a => s.parkDue a, (List.finRange 80).find? fun k => (s.fireUnit k).dwell = some 0,
      allSlow.find? s.arrivalDue with
    | some a, _, _ => some (.homingParkSettled a)
    | none, some k, _ => some (.fireDwellEnd k)
    | none, none, some i => some (.debouncedArrival i)
    | none, none, none =>
      if s.gapDue then some .gapTimeout
      else if s.expiring .chain then some .chainJam
      else if s.expiring .gate then some .gateJam
      else if s.expiring .head then some .headJam
      else if s.expiring .span then some .spanTimeout
      else if s.expiring .table then some .tableTimeout
      else if s.expiring .conveyor then some .conveyorJam
      else if s.lateDue .transport then some (.boardLate .transport)
      else if s.lateDue .head then some (.boardLate .head)
      else none

/-- The controller's own step that is due: one that needs no command, no wiring event and no further time. -/
def State.dueStep (s : State) : Option Instr :=
  match s.dueStart with
  | some i => some i
  | none => s.dueEnd

/-- What the controller does of itself when no command waits: a step of its own that is due, or one ms, after which the
following errors are judged as after every event (R129; DESIGN CHOICE, assumption log 3). -/
def State.idle (s : State) : Host.Outcome State Fault Refusal :=
  match s.dueStep with
  | some i => exec i s
  | none => .next s.tick.judge

end Sys2Proof.Machine
end

