-- ==== Sys2Proof/Safety.lean ====
section
/-! DEFINITION. What a safe step is, and the terms the statements use: a command taken and answered at once, the values
after a reset, and the laws that the manual's prose gives the whole machine and that every step keeps. -/

namespace Sys2Proof.Machine

/-! ## Safe steps -/

/-- The outcome is a next state. -/
def completes (o : Host.Outcome State Fault Refusal) : Bool :=
  match o with
  | .next _ => true
  | _ => false

/-- A command is safe in a state: its step answers a next state. -/
def Safe (i : Instr) (s : State) : Prop := completes (exec i s) = true

/-- A run of `n` steps is safe. -/
def SafeRun : Nat → State → Prop
  | 0, _ => True
  | n + 1, s =>
    match step s with
    | .next t => SafeRun n t
    | _ => False

/-- A law that every step of the controller keeps. -/
def KeptByEveryStep (law : State → Prop) : Prop := ∀ s t : State, law s → step s = .next t → law t

/-! ## Commands and their replies -/

/-- Where a number of steps, counted in the positive sense, takes a position on its way to a limit: towards it, and not past
it. -/
def approach (limit position steps : Int) : Int :=
  if position < limit then min limit (max position (position + steps)) else max limit (min position (position + steps))

/-- The commanded position of an axis after a number of steps (R120, R122, R131): in clear in the positive sense, in search in
the negative sense, in park in the negative sense while the axis decelerates from the search and then to the park target, in
a move towards the target and short of it, and elsewhere none is issued. -/
def commandedAfter (v : AxisRec) (steps : Int) : Int :=
  match v.drive, v.state, v.target with
  | true, .homing .clear, _ => position32 (v.commanded + max 0 steps)
  | true, .homing .search, _ => position32 (v.commanded + min 0 steps)
  | true, .homing .park, target =>
    if v.slowing = true ∧ steps ≤ 0 then position32 (v.commanded + steps)
    else (target.map fun t => approach t v.commanded steps).getD v.commanded
  | true, .moving, some t =>
    if v.commanded = t then t else approach (if v.commanded < t then t - 1 else t + 1) v.commanded steps
  | _, _, _ => v.commanded

/-- Whether an axis still decelerates from its search after a number of steps (R122). -/
def slowingAfter (v : AxisRec) (steps : Int) : Bool :=
  v.slowing && !(v.drive && decide (v.state = .homing .park ∧ 0 < steps))

/-- MLK takes a command in the event of its arrival: no frame waits, a place for the reply is free, and no RESET has
been accepted (R199). -/
def State.takesAtOnce (s : State) : Prop :=
  s.link.input = [] ∧ s.link.output.length < 16 ∧ s.link.resetAccepted = false

/-- The command leaves the state `u`, to whose output queue the reply is added at the tail (R199, R200). -/
def Answers (i : Instr) (s u : State) (kind tag : Byte) (payload : List Byte) : Prop :=
  exec i s = .next { u with link := { u.link with
    output := u.link.output ++ [{ kind := kind, tag := tag, payload := payload }] } }

/-- The payload lengths that the command catalogue permits (R199, section 12.6); for PROGRAM_BEGIN and PROGRAM_STEPS, whose
owner judges the length, those of a whole number of elements. -/
def permittedLength (kind n : Nat) : Bool :=
  if kind ∈ [0x01, 0x0E, 0x0F, 0x10, 0x17, 0x19, 0x1C, 0x1D, 0x1E, 0x20, 0x22] ∨ (0x25 ≤ kind ∧ kind ≤ 0x2D) then n = 0
  else if kind ∈ [0x02, 0x04, 0x05, 0x06, 0x07, 0x16, 0x18, 0x1A] then n = 1
  else if kind ∈ [0x0A, 0x0B, 0x23] then n = 2
  else if kind ∈ [0x14, 0x24] then n = 4
  else if kind ∈ [0x03, 0x08] then n = 5
  else
    match kind with
    | 0x09 => n = 19
    | 0x0C => within 8 72 n && n % 4 = 0
    | 0x0D => within 2 242 n && n % 10 = 2
    | 0x11 => n = 10
    | 0x12 => n = 7
    | 0x13 => n = 8
    | 0x15 => n = 1 || n = 3
    | 0x1B => n = 44
    | 0x1F => n = 6
    | 0x21 => n = 14
    | _ => false

/-! ## The values after a reset -/

/-- CHT, STC and PGS after a reset (R1, R2, R11, R17, R23, R37, R40, R46, R93); and no pocket has been assigned at entry
(assumption log 44). -/
def ResetDispensing (t : State) : Prop :=
  t.chain.c = 0 ∧ (∀ p, t.pocket p = ⟨.unknown, none, none, none, none⟩) ∧ t.chain.index = .idle
    ∧ t.chain.indexDrive = false ∧ t.chain.gateStroke = none ∧ t.chain.gateOutput = false ∧ t.chain.entryTaken = false
    ∧ (∀ k, t.station k = ⟨none, .unloaded, 0, 0, 0, false, false, 0, 0, false⟩)
    ∧ (∀ k, t.fireUnit k = ⟨false, none⟩) ∧ t.stations.dwellLength = 12 ∧ t.stations.codes = []
    ∧ (∀ g, vget t.stations.groups g = ⟨false, 0, 0, .hold⟩) ∧ t.stations.defaultClass = .hold
    ∧ t.programs = ⟨.empty, .none⟩

/-- BDQ, ASG and VFY after a reset (R63, R70, R80, R109). -/
def ResetBoards (t : State) : Prop :=
  t.boards = ⟨none, none, []⟩ ∧ t.starved = none
    ∧ t.verifier = ⟨none, false, none, none, 3, ⟨0, 0, 0, 0, 0, 0, 0⟩⟩

/-- TPS, HDC and BCV after a reset that ends with the head-top input at the given level (R119, R124, R129, R138, R140,
R156). -/
def ResetMotion (headTop : Bool) (t : State) : Prop :=
  (∀ a, t.axis a = ⟨0, 0, none, false, false, .unhomed, none, false⟩)
    ∧ t.table.purpose = none ∧ t.table.inFlight = false ∧ t.table.positioned = false ∧ t.table.kept = none
    ∧ t.table.loadRequest = false ∧ t.table.settle = none ∧ t.table.followError = false
    ∧ t.table.geometry = ⟨0, 0, 0, 0, 0, 0, 0, 240000, 0, 200000, 0, 0, 6, 8, 400⟩
    ∧ t.head.state = (if headTop then .top else .halted .reset false) ∧ t.head.held = none
    ∧ t.head.unowned = false ∧ t.head.boardWait = false ∧ t.head.clinch = .retracted
    ∧ t.head.counts = ⟨0, 0, 0, 0, 0⟩ ∧ t.head.keptSpan = none ∧ t.head.spanMoving = false
    ∧ t.head.outputs = ⟨false, false, false, none, false, false, none, false⟩
    ∧ t.conveyor = ⟨.empty, none, false, 0, 0, ⟨false, false, false, false, false, false⟩⟩

/-- The raw level of a debounced input. -/
def rawLevel (lv : Levels) : SlowInput → Bool
  | .tape k => lv.tapes.getLsbD k.val
  | .airOk => lv.airOk
  | .guardClosed => lv.guardClosed

/-- WCH after a reset (R166, R167, R171, R174, R175). -/
def ResetInputs (lv : Levels) (t : State) : Prop :=
  (∀ i, t.slow i = ⟨rawLevel lv i, 0, .unknown⟩)
    ∧ t.inputs.tapeTime = 50 ∧ t.inputs.airTime = 1000 ∧ t.inputs.guardTime = 10
    ∧ (∀ w, t.watch w = ⟨.idle, 0⟩) ∧ t.inputs.transportWait = none ∧ t.inputs.headWait = none
    ∧ t.inputs.timeouts = ⟨250, 150, 400, 800, 1500, 5000, 20000⟩

/-- ALC and MLK after a reset, and the time stamp (R177, R179, R183, R186, R194, R195, R196, R204). -/
def ResetControl (cause : ResetCause) (lv : Levels) (t : State) : Prop :=
  (∀ src, t.source src = ⟨false, .none, 0, ⟨none, none, none, none, none, 0⟩, false⟩)
    ∧ t.alarms.slots = ⟨.stop, .hold, .warn, .hold⟩ ∧ t.alarms.capture = ⟨none, 0⟩
    ∧ t.alarms.line = ⟨.unready, false, false, false, false, false, !lv.pins.headTop, none, cause⟩
    ∧ t.link.receiver = .hunting ∧ t.link.input = [] ∧ t.link.output = []
    ∧ t.link.counters = ⟨0, 0, 0, 0, 0, 0, 0⟩
    ∧ t.link.baud = (if lv.pins.baud1 then (if lv.pins.baud0 then 460800 else 230400)
        else if lv.pins.baud0 then 115200 else 57600)
    ∧ t.link.resetAccepted = false ∧ t.clock = 0 ∧ t.pins = lv.pins

/-- Every block at its values after a reset of a cause that ends with the inputs at the given levels, the emergency
stop apart (section 5.5 of 00_scope; R195). -/
def AfterReset (cause : ResetCause) (lv : Levels) (t : State) : Prop :=
  ResetDispensing t ∧ ResetBoards t ∧ ResetMotion lv.pins.headTop t ∧ ResetInputs lv t ∧ ResetControl cause lv t

/-! ## The laws of the whole machine -/

/-- The queues of the link and the receiver keep their bounds (R197, R198, R200). -/
def QueueLaw (s : State) : Prop :=
  s.link.output.length ≤ 16 ∧ s.link.input.length ≤ 2
    ∧ ∀ bytes since, s.link.receiver = .inFrame bytes since →
        bytes ≠ [] → 2 ≤ bodyLength bytes ∧ bodyLength bytes ≤ 250 ∧ bytes.length < bodyLength bytes + 3

/-- A source has a class raised exactly while it is pending, and in RUNNING no source is pending with class HOLD or STOP
(R179, R182, R191). -/
def AlarmLaw (s : State) : Prop :=
  (∀ src, (s.source src).pending = true ↔ (s.source src).cls ≠ .none)
    ∧ (s.line = .running → ∀ src, (s.source src).cls ≠ .hold ∧ (s.source src).cls ≠ .stop)

/-- The optional fields of a pocket record are present in the states R2 gives and absent in all others. -/
def Pocket.formed (k : Pocket) : Prop :=
  match k.state with
  | .unknown | .empty => k.entry = none ∧ k.station = none ∧ k.result = none ∧ k.cause = none
  | .assigned | .fired | .loaded =>
    k.entry.isSome = true ∧ k.station.isSome = true ∧ k.result = none ∧ k.cause = none
  | .verified =>
    k.entry.isSome = true ∧ k.station.isSome = true ∧ (k.result = none ∨ k.result = some .pass) ∧ k.cause = none
  | .rejected =>
    k.entry = none ∧ k.station = none ∧ (∃ r, k.result = some r ∧ r ≠ .pass) ∧ k.cause = some .verify
  | .orphan =>
    k.entry = none ∧ k.station = none
      ∧ (k.cause = some .skipped ∨ k.cause = some .abandoned ∨ k.cause = some .stray)

/-- Every pocket record has its form (R2). -/
def PocketLaw (s : State) : Prop := ∀ p, (s.pocket p).formed

/-- The transport record agrees with the phase of the ACTIVE board, an unload request stands only for a CLAMPED transport
whose board is UNLOADING, and a NEXT board stands only behind an ACTIVE one, unfenced and WAITING (R63, R76, R156,
R162). -/
def TransportLaw (s : State) : Prop :=
  (match s.boards.next with
    | none => True
    | some n => n.phase = .waiting ∧ n.fenced = false ∧ ∃ a, s.boards.active = some a ∧ a.id ≠ n.id)
    ∧ (s.conveyor.unloadRequest = true →
        s.conveyor.state = .clamped ∧ ∃ a, s.boards.active = some a ∧ a.phase = .unloading)
    ∧ (match s.conveyor.state with
      | .empty => s.conveyor.board = none ∧ ∀ a, s.boards.active = some a → a.phase = .waiting
      | .entryWait =>
        ∃ a, s.boards.active = some a ∧ s.conveyor.board = some a.id ∧ a.phase = .waiting
      | .entryRun .. | .clamping =>
        ∃ a, s.boards.active = some a ∧ s.conveyor.board = some a.id ∧ a.phase = .loading
      | .clamped =>
        ∃ a, s.boards.active = some a ∧ s.conveyor.board = some a.id ∧ (a.phase = .clamped ∨ a.phase = .unloading)
      | .unclamping | .tableWait | .unloading .. =>
        ∃ a, s.boards.active = some a ∧ s.conveyor.board = some a.id ∧ a.phase = .unloading)

/-- A line in HOLDING is not quiescent: it has become HELD in the event that made it so (R189). -/
def QuiescenceLaw (s : State) : Prop := s.line = .holding → s.quiescent = false

/-- The states of an axis in which it is homed (R119). -/
def AxisState.homed : AxisState → Bool
  | .unhomed | .homing .clear | .homing .search => false
  | .homing .park | .idle | .moving | .settling | .inPosition => true

/-- The line record mirrors the store, the axes and the head; an axis is homed exactly in the states that say so, and its
drive is off only while it is UNHOMED; readiness agrees with the line state (R119, R141, R186, R187). -/
def ReadinessLaw (s : State) : Prop :=
  s.alarms.line.programLoaded = s.programs.store.isLoaded
    ∧ s.alarms.line.headHalted = s.head.state.isHalted
    ∧ (∀ a, s.alarms.line.homed a = (s.axis a).homed ∧ (s.axis a).homed = (s.axis a).state.homed
        ∧ ((s.axis a).drive = false → (s.axis a).state = .unhomed))
    ∧ (match s.line with
      | .unready => s.alarms.line.ready = false
      | .ready | .running | .holding | .held => s.alarms.line.ready = true
      | .stopped | .recovering => True)

/-- Every target of a loaded program, for every image and INSERT step, lies within the travel in force (R58). -/
def TravelLaw (s : State) : Prop :=
  ∀ h steps inserts barriers, s.programs.store = .loaded h steps inserts barriers →
    ∀ (i : Nat) (r : StepRecord) (image : Nat), steps[i]? = some r → r.kind = 1 → image < h.images →
      ∃ x y z : Int, target s.table.geometry r.x r.y r.byte1 (h.offset image) = (x, y, z)
        ∧ s.table.geometry.xmin ≤ x ∧ x ≤ s.table.geometry.xmax
        ∧ s.table.geometry.ymin ≤ y ∧ y ≤ s.table.geometry.ymax

/-- The counts and thresholds of a station record keep their ranges (R23, R26, R114). -/
def Station.inRange (r : Station) : Prop :=
  r.reel ≤ r.load ∧ r.load ≤ 65535 ∧ r.low ≤ 65535 ∧ r.failRun ≤ 15

/-- The timeouts keep their ranges (R175). -/
def timeoutsInRange (t : Timeouts) : Prop :=
  (50 ≤ t.chain ∧ t.chain ≤ 2000) ∧ (50 ≤ t.gate ∧ t.gate ≤ 1000) ∧ (100 ≤ t.head ∧ t.head ≤ 3000)
    ∧ (100 ≤ t.span ∧ t.span ≤ 3000) ∧ (200 ≤ t.table ∧ t.table ≤ 10000)
    ∧ (500 ≤ t.conveyor ∧ t.conveyor ≤ 30000) ∧ (1000 ≤ t.board ∧ t.board ≤ 60000)

/-- The geometry keeps its ranges (R124). -/
def geometryInRange (g : Geometry) : Prop :=
  g.hx ≤ 120000 ∧ g.hy ≤ 120000 ∧ g.rcx ≤ 60000 ∧ g.rcy ≤ 60000 ∧ (-2000 ≤ g.sx ∧ g.sx ≤ 2000)
    ∧ (-2000 ≤ g.sy ∧ g.sy ≤ 2000) ∧ (g.xmin < g.xmax ∧ g.xmax ≤ 240000) ∧ (g.ymin < g.ymax ∧ g.ymax ≤ 200000)
    ∧ (g.xmin ≤ g.lx ∧ g.lx ≤ g.xmax) ∧ (g.ymin ≤ g.ly ∧ g.ly ≤ g.ymax) ∧ (1 ≤ g.window ∧ g.window ≤ 200)
    ∧ g.settle ≤ 100 ∧ (50 ≤ g.following ∧ g.following ≤ 5000)

/-- Every setting and every counted record keeps its range (R23, R26, R93, R114, R117, R124, R167, R175). -/
def RangeLaw (s : State) : Prop :=
  (∀ k, (s.station k).inRange) ∧ (4 ≤ s.stations.dwellLength ∧ s.stations.dwellLength ≤ 30)
    ∧ (∀ g, (vget s.stations.groups g).base ≤ 127 ∧ (vget s.stations.groups g).mask ≤ 127)
    ∧ (1 ≤ s.verifier.threshold ∧ s.verifier.threshold ≤ 15)
    ∧ timeoutsInRange s.inputs.timeouts ∧ geometryInRange s.table.geometry
    ∧ s.inputs.tapeTime ∈ [0, 10, 50, 200] ∧ s.inputs.airTime ∈ [100, 1000] ∧ s.inputs.guardTime ∈ [0, 10, 50]

/-- A code record keeps the ranges of its fields (R40). -/
def CodeRecord.inRange (c : CodeRecord) : Prop :=
  (1 ≤ c.number ∧ c.number ≤ 9999) ∧ (1 ≤ c.stations.length ∧ c.stations.length ≤ 4) ∧ c.stations.Nodup
    ∧ c.active < c.stations.length ∧ (50 ≤ c.span ∧ c.span ≤ 260) ∧ c.remake ≤ 3
    ∧ (1 ≤ c.spec.m ∧ c.spec.m ≤ 9999) ∧ (-12 ≤ c.spec.e ∧ c.spec.e ≤ 7) ∧ c.spec.tl ≤ 500 ∧ c.spec.th ≤ 500

/-- The code table holds at most one record for each code; a station's owner is the code whose list names it; a code that
is not starved has a READY active station, and a starved code has no READY station (R40, R44, R45). -/
def CodeLaw (s : State) : Prop :=
  (s.stations.codes.Pairwise fun c d => c.number < d.number)
    ∧ (∀ c ∈ s.stations.codes, c.inRange)
    ∧ (∀ k n, (s.station k).owner = some n ↔ ∃ c ∈ s.stations.codes, c.number = n ∧ k ∈ c.stations)
    ∧ ∀ c ∈ s.stations.codes,
        if c.starved then ∀ k ∈ c.stations, (s.station k).state ≠ .ready
        else ∃ k, c.stations[c.active]? = some k ∧ (s.station k).state = .ready

/-- The number of ASSIGNED pockets that name a station (R25). -/
def State.assignedTo (s : State) (k : Fin 80) : Nat :=
  s.chain.pockets.toList.countP fun p => decide (p.state = .assigned ∧ p.station = some k)

/-- A station's pending-fire count equals the number of ASSIGNED pockets naming it, and it is zero whenever the station is
LOCKED, QUARANTINED, FAULT or UNLOADED (R25). -/
def PendingLaw (s : State) : Prop :=
  ∀ k, (s.station k).pending = s.assignedTo k
    ∧ ((s.station k).state = .locked ∨ (s.station k).state = .quarantined ∨ (s.station k).state = .fault
        ∨ (s.station k).state = .unloaded → (s.station k).pending = 0)

/-- An ASSIGNED pocket that names a station has not passed it, and while an index is not at rest it has not reached it; the
pocket under the gate stroke is one the gate dumps, at 90, or at 91 with the index at rest (R6, R9, R12, R17). -/
def PlaceLaw (s : State) : Prop :=
  (∀ (p : Fin 128) (k : Fin 80), (s.pocket p).state = .assigned → (s.pocket p).station = some k →
      (s.positionOf p).val ≤ k.val + 1 ∧ (s.chain.index ≠ .idle → (s.positionOf p).val ≤ k.val))
    ∧ ∀ p, s.chain.gateStroke = some p →
        ((s.pocket p).state = .rejected ∨ (s.pocket p).state = .orphan ∨ (s.pocket p).state = .unknown)
          ∧ (s.positionOf p = 90 ∨ (s.positionOf p = 91 ∧ s.chain.index = .idle))

/-- The pick stroke: in flight, or halted by a STOP (R142, R152). -/
def HeadState.picking : HeadState → Bool
  | .pickStroke | .halted .pickStroke false => true
  | _ => false

/-- Where the pockets that hold an entry stand, so that none stands beyond 96 (R70): FIRED before the presence check, LOADED from
84 to 88, VERIFIED from 88 to 96 (R12, R15, R110, R142). The pocket measured stands at 88, LOADED with the entry and the
station of the measurement or since orphaned (R109, R110), and the pocket of a pick stroke stands at 96, VERIFIED or since
orphaned (R19, R142). While an index is not at rest no measurement and no pick stroke is in flight, and none is wanted (R9,
R11). -/
def StandLaw (s : State) : Prop :=
  (∀ p, match (s.pocket p).state with
    | .fired => (s.positionOf p).val ≤ 83
    | .loaded => 84 ≤ (s.positionOf p).val ∧ (s.positionOf p).val ≤ 88
    | .verified => 88 ≤ (s.positionOf p).val ∧ (s.positionOf p).val ≤ 96
    | _ => True)
    ∧ (∀ m, s.verifier.flight = some m → s.positionOf m.pocket = 88
        ∧ ((s.pocket m.pocket).state = .orphan ∨ (s.pocket m.pocket).state = .loaded
          ∧ (s.pocket m.pocket).entry = some m.entry ∧ (s.pocket m.pocket).station = some m.station))
    ∧ (s.head.state.picking = true →
        (s.pocket (s.pocketAt 96)).state = .verified ∨ (s.pocket (s.pocketAt 96)).state = .orphan)
    ∧ (s.chain.index ≠ .idle → s.verifier.flight = none ∧ s.head.state.picking = false
        ∧ (s.pocket (s.pocketAt 88)).state ≠ .loaded ∧ (s.pocket (s.pocketAt 96)).state ≠ .verified)

/-- The head states that may hold an entry (R139, R152, R153). -/
def HeadState.mayHold : HeadState → Bool
  | .pickSpanWait | .form | .wait | .drive .. | .clinch => true
  | .halted .pickSpanWait false | .halted .form false | .halted .wait false => true
  | _ => false

/-- The head states that may hold an unowned component (R139, R143, R149, R152, R153, R154). -/
def HeadState.mayHoldUnowned : HeadState → Bool
  | .pickSpanWait | .wait | .discard => true
  | .halted .pickSpanWait false | .halted .form false | .halted .wait false | .halted .discard false => true
  | _ => false

/-- What the head holds: an entry or an unowned component, never both, and each in the states of R139 alone. Outside RUNNING,
HOLDING and RECOVERING, and in RECOVERING once its part is done, the head is in TOP or WAIT, or HALTED outside recovery (R151,
R152, R154, R189). The clinch unit strokes exactly in CLINCH (R147, R152, R153). -/
def HoldLaw (s : State) : Prop :=
  (s.head.held.isSome = true → s.head.unowned = false ∧ s.head.state.mayHold = true)
    ∧ (s.head.unowned = true → s.head.state.mayHoldUnowned = true)
    ∧ (match s.line with
      | .unready | .ready | .held | .stopped =>
        s.head.state = .top ∨ s.head.state = .wait ∨ s.head.state.isHalted = true
      | .recovering => ∀ r, s.alarms.line.recovery = some r → r.head = true → s.head.state = .top ∨ s.head.state = .wait
      | .running | .holding => True)
    ∧ (s.head.state = .clinch ↔ ∃ d, s.head.clinch = .stroking d)

/-- The status of the entry that a pocket in a state holds (R3). -/
def PocketState.entryStatus? : PocketState → Option EntryStatus
  | .assigned => some .assigned
  | .fired => some .fired
  | .loaded => some .loaded
  | .verified => some .verified
  | _ => none

/-- The statuses of an entry that a pocket holds (R3). -/
def EntryStatus.inPocket : EntryStatus → Bool
  | .assigned | .fired | .loaded | .verified => true
  | _ => false

/-- A pocket holds an entry exactly when it is ASSIGNED, FIRED, LOADED or VERIFIED, the entry has the status that goes with it
and names that pocket; and an entry in one of these statuses is held by exactly one pocket, the one it names (R3). -/
def HeldByPockets (s : State) : Prop :=
  (∀ p, (s.pocket p).entry.isSome = (s.pocket p).state.entryStatus?.isSome)
    ∧ (∀ p ref, (s.pocket p).entry = some ref →
        ∃ e, s.entry? ref = some e ∧ (s.pocket p).state.entryStatus? = some e.status ∧ e.pocket = some p)
    ∧ ∀ ref e, s.entry? ref = some e → e.pocket.isSome = e.status.inPocket
        ∧ (e.status.inPocket = true → ∃ p, (s.pocket p).entry = some ref ∧ ∀ q, (s.pocket q).entry = some ref → q = p)

/-- The return queue holds exactly the QUEUED entries, each once, and the entries in work, in the queue, in the pockets and in the
head, are at most 128 (R70); the entry in the head is the one IN_HEAD entry (R143, R146, R147). -/
def QueueOfEntries (s : State) : Prop :=
  s.boards.queue.Nodup
    ∧ (∀ ref, ref ∈ s.boards.queue ↔ ∃ e, s.entry? ref = some e ∧ e.status = .queued)
    ∧ s.entriesInWork ≤ 128
    ∧ ∀ ref, (∃ h, s.head.held = some h ∧ h.ref = ref) ↔ ∃ e, s.entry? ref = some e ∧ e.status = .inHead

/-- The entries in the pockets, in the return queue and in the head (R3, R70); and the board that is being unloaded has every entry
terminal (R76). -/
def EntryLaw (s : State) : Prop :=
  HeldByPockets s ∧ QueueOfEntries s
    ∧ ∀ b, s.boards.active = some b → b.phase = .unloading → b.allTerminal = true

/-- The outputs of CHT, STC, VFY and BCV follow their states (R11, R17, R92, R109, R157). -/
def LineOutputs (s : State) : Prop :=
  (s.chain.indexDrive = true ↔ s.chain.index = .inFlight)
    ∧ (s.chain.gateOutput = true ↔ s.chain.gateStroke.isSome = true)
    ∧ (∀ k, (s.fireUnit k).output = true → (s.fireUnit k).dwell.isSome = true)
    ∧ (s.verifier.contacts = true ↔ s.verifier.flight.isSome = true)
    ∧ (s.verifier.range.isSome = true ↔ s.verifier.flight.isSome = true)
    ∧ (s.conveyor.outputs.entryRun = true ↔ ∃ b, s.conveyor.state = .entryRun false b)
    ∧ (s.conveyor.outputs.exitRun = true ↔ ∃ b, s.conveyor.state = .unloading false b)
    ∧ (s.conveyor.outputs.clampClose = true ↔ s.conveyor.state = .clamping ∨ s.conveyor.state = .clamped)
    ∧ s.conveyor.outputs.pinsUp = s.conveyor.outputs.clampClose
    ∧ (s.conveyor.outputs.clampOpen = true ↔ s.conveyor.state = .unclamping)
    ∧ s.conveyor.outputs.pinsDown = s.conveyor.outputs.clampOpen

/-- The stroke outputs of HDC follow the head and the clinch state (R142 to R149, R152). -/
def HeadOutputsLaw (s : State) : Prop :=
  (s.head.outputs.pick = true ↔ s.head.state = .pickStroke)
    ∧ (s.head.outputs.form = true ↔ s.head.state = .form)
    ∧ (s.head.outputs.drive.isSome = true ↔ (∃ l r, s.head.state = .drive l r) ∨ s.head.state = .clinch)
    ∧ (s.head.outputs.rise = true ↔ s.head.state = .rise)
    ∧ (s.head.outputs.release = true ↔ s.head.state = .discard)
    ∧ (∀ d, s.head.outputs.clinch = some d ↔ s.head.clinch = .stroking d)
    ∧ (s.head.outputs.retract = true ↔ s.head.clinch = .retracting)

/-- Every output follows the state of its mechanism. -/
def OutputLaw (s : State) : Prop := LineOutputs s ∧ HeadOutputsLaw s

/-- No passage of the head is left undone: a RETURN whose head is up and whose clinch is retracted, a DISCARD whose jaws
are open, a SPAN_WAIT whose span axis stands at the span of the entry held, or in recovery a SPAN_WAIT with an unowned
component and no span move in flight (R144, R148, R149, R154; assumption log 41). -/
def PassagesDone (s : State) : Prop :=
  ¬(s.head.state = .rise ∧ s.pins.headTop = true ∧ s.head.clinch = .retracted)
    ∧ ¬(s.head.state = .discard ∧ s.pins.jawsOpen = true)
    ∧ (∀ h, s.head.state = .pickSpanWait → s.head.held = some h → s.head.spanAt (spanCount h.span) = false)
    ∧ (s.line = .recovering → s.head.state = .pickSpanWait → s.head.held = none → s.head.unowned = true →
        s.head.spanMoving = true)

/-- The two waits of the BOARD watch stand exactly while their conditions do (R145, R159, R174). -/
def WaitsStand (s : State) : Prop :=
  (s.head.boardWait = true ↔
      s.head.state = .wait ∧ ∃ h, s.head.held = some h ∧ s.clamped h.ref.board = false)
    ∧ (s.inputs.headWait.isSome = true ↔ s.head.boardWait = true)
    ∧ (s.inputs.transportWait.isSome = true ↔ s.conveyor.state = .entryWait)

/-- The starved-wait record names the candidate that waits on starvation, and in RUNNING it stands whenever one does
(R84). -/
def StarvedRecord (s : State) : Prop :=
  (∀ w, s.starved = some w → s.starvedCandidate.map (·.1) = some w.entry)
    ∧ (s.line = .running → s.starved.map (·.entry) = s.starvedCandidate.map (·.1))

/-- The recovery parts are present in RECOVERING alone, and there at least one of them is not done (R186, R192). -/
def RecoveryOpen (s : State) : Prop :=
  (s.alarms.line.recovery.isSome = true ↔ s.line = .recovering)
    ∧ ∀ p, s.alarms.line.recovery = some p →
        ¬(p.chain = true ∧ p.head = true) ∧ (s.chain.index = .idle → p.chain = true)
          ∧ (s.headRecovered = true → p.head = true)

/-- No start is left due: each was taken in the event that made it due (R17, R90, R94, R130, R133, R142, R145, R149, R159, R160,
R162, R163). An entry move waits for the pick stroke, in which the head holds no entry, and where the loaded program gives
its entry no target. -/
def StartsTaken (s : State) : Prop :=
  (∀ k, s.fireDue k = false) ∧ s.gateDue = false
    ∧ s.pickDue = false ∧ s.driveDue = false ∧ s.discardDue = false
    ∧ (∀ ref, s.entryMoveDue = some ref → s.head.state = .pickStroke ∨ s.entryTarget ref = none) ∧ s.loadMoveDue = false
    ∧ s.loadDue = false ∧ s.entryRunDue = false ∧ s.unloadDue = false ∧ s.exitRunDue = false

/-- What the end of an event leaves judged: the head's passages, the completion of the ACTIVE board, the waits, the
starved-wait record and recovery (R76, R84, R144, R145, R148, R149, R159, R174, R192), and every start taken. -/
def SettledLaw (s : State) : Prop :=
  PassagesDone s ∧ WaitsStand s ∧ StarvedRecord s ∧ RecoveryOpen s ∧ StartsTaken s
    ∧ ∀ b, s.boards.active = some b → b.allTerminal = true →
        b.completing = true ∧ (b.phase = .loading ∨ b.phase = .unloading)

/-- All the laws together. -/
def Lawful (s : State) : Prop :=
  QueueLaw s ∧ AlarmLaw s ∧ PocketLaw s ∧ TransportLaw s ∧ QuiescenceLaw s ∧ ReadinessLaw s ∧ TravelLaw s
    ∧ RangeLaw s ∧ CodeLaw s ∧ PlaceLaw s ∧ PendingLaw s ∧ StandLaw s ∧ HoldLaw s ∧ EntryLaw s ∧ OutputLaw s ∧ SettledLaw s

end Sys2Proof.Machine
end

