-- ==== Sys2Proof/WellFormed.lean ====
section
/-! DEFINITION. Well-formed commands: every field of a host command fits the bytes its frame gives it (R197, R201,
R202, section 12.6), and a machine event can be one the wiring or a watch makes. A field that fits its bytes and lies
outside its range is well-formed: its owner refuses it. -/

namespace Sys2Proof

/-- A field of one byte. -/
def fits8 (n : Nat) : Bool := decide (n < 256)

/-- A field of two bytes. -/
def fits16 (n : Nat) : Bool := decide (n < 65536)

/-- A field of four bytes. -/
def fits32 (n : Nat) : Bool := decide (n < 4294967296)

/-- A signed field of one byte. -/
def fitsI8 (n : Int) : Bool := withinInt (-128) 127 n

/-- A signed field of two bytes. -/
def fitsI16 (n : Int) : Bool := withinInt (-32768) 32767 n

/-- A signed field of four bytes. -/
def fitsI32 (n : Int) : Bool := withinInt (-2147483648) 2147483647 n

def CodeFields.wellFormed (f : CodeFields) : Bool :=
  fits16 f.number && fits8 f.length && fits8 f.st0 && fits8 f.st1 && fits8 f.st2 && fits8 f.st3 && fits16 f.span
    && fits8 f.clinch && fits8 f.remake && fits8 f.kind && fits16 f.m && fitsI8 f.e && fits16 f.tl && fits16 f.th

def StepRecord.wellFormed (r : StepRecord) : Bool :=
  fits8 r.kind && fits8 r.byte1 && fits16 r.code && fits16 r.x && fits16 r.y && fits16 r.span

def Geometry.wellFormed (g : Geometry) : Bool :=
  fits32 g.hx && fits32 g.hy && fits16 g.rcx && fits16 g.rcy && fitsI16 g.sx && fitsI16 g.sy && fits32 g.xmin
    && fits32 g.xmax && fits32 g.ymin && fits32 g.ymax && fits32 g.lx && fits32 g.ly && fits8 g.window
    && fits8 g.settle && fits16 g.following

def Timeouts.wellFormed (t : Timeouts) : Bool :=
  fits16 t.chain && fits16 t.gate && fits16 t.head && fits16 t.span && fits16 t.table && fits16 t.conveyor
    && fits16 t.board

/-- The well-formed commands. R104 states no width of the front end's converter count: that the counts of
MEASUREMENT_COMPLETION are 16 bits is the model's (DESIGN CHOICE, assumption log 43). -/
def Instr.wellFormed : Instr → Bool
  | .readPocket _ p => fits8 p
  | .loadStation _ k c l => fits8 k && fits16 c && fits16 l
  | .lockStation _ k | .unlockStation _ k | .resetStation _ k | .readStation _ k => fits8 k
  | .setStationGroup _ g e b m c => fits8 g && fits8 e && fits8 b && fits8 m && fits8 c
  | .defineCode _ f => f.wellFormed
  | .removeCode _ c | .readCode _ c => fits16 c
  | .programBegin _ p n m o l =>
    fits32 p && fits16 n && fits8 m && fits8 o && decide (l.length ≤ 16) && l.all fun x => fits16 x.1 && fits16 x.2
  | .programSteps _ n l => fits16 n && decide (l.length ≤ 24) && l.all StepRecord.wellFormed
  | .announceBoard _ b p m => fits32 b && fits32 p && fits16 m
  | .skipStep _ b i n => fits32 b && fits8 i && fits16 n
  | .disposeStep _ b i n d => fits32 b && fits8 i && fits16 n && fits8 d
  | .abandonBoard _ b => fits32 b
  | .readBoard _ n i => fits8 n && i.all fits16
  | .setFireDwell _ n | .setFailThreshold _ n | .home _ n => fits8 n
  | .setGeometry _ g => g.wellFormed
  | .setDebounce _ a b c => fits16 a && fits16 b && fits16 c
  | .setTiming _ t => t.wellFormed
  | .setAlarmClass _ n c => fits8 n && fits8 c
  | .ackAlarms _ n => fits32 n
  | .unknownKindCommand k _ p => within 0x2E 0x3F k.toNat && decide (p.length ≤ 248)
  | .measurementCompletion f r => fits16 f && fits16 r
  | .homingParkSettled a => a ≠ .span
  | .encoderCount _ _ n | .axisDecelerated _ n => fitsI32 n
  | .readChain _ | .programEnd _ | .programClear _ | .readProgram _ | .readAssignment _ | .readVerifier _
  | .readTable _ | .readHead _ | .readConveyor _ | .readInputs _ | .readWatches _ | .readCapture _ | .clearCapture _
  | .readAlarms _ | .run _ | .hold _ | .stop _ | .recover _ | .getStatus _ | .reset _
  | .rxCharacter .. | .gapTimeout | .frameSent .. | .powerOn _ | .resetPin _ | .indexRequest | .indexCompletion _
  | .chainJam | .assignment _ | .fire _ | .fireDwellEnd _ | .gateStrokeStart | .gateStrokeCompletion | .gateJam
  | .measurementStart | .homeSwitchArrival .. | .tableTimeout | .entryMoveStart | .loadMoveStart
  | .axisProfileComplete _ | .tablePositioned | .pickStart | .pickCompletion | .formCompletion | .driveStart
  | .leadSensorArrival _ | .driveCompletion | .clinchCompletion .. | .clinchHomeArrival _ | .headTopArrival _
  | .discardStart | .jawsOpenArrival _ | .headJam | .spanTimeout | .loadStart | .entrySensorArrival _
  | .stopSensorArrival _ | .clampClosedArrival _ | .unloadStart | .clampOpenArrival _ | .exitRunStart
  | .exitSensorArrival _ | .conveyorJam | .boardLate _ | .rawInputChange .. | .debouncedArrival _ | .estopArrival
  | .estopRelease => true

end Sys2Proof
end

