-- ==== Sys2Proof/Certificates/Slice0/Obligations.lean ====
section
/-! DEFINITION. The statements for the provers, in the order of OBLIGATIONS.json. Each docstring names the rules of the
manual it states, or the entry of the assumption log whose choice it shows. -/

section

open Sys2Proof Sys2Proof.Machine

/-! ## The step, the resets and the link -/

/-- One step takes the command at the front of the queue and runs it with the queue's rest. That what waits comes before the
controller's own steps and before time is the model's choice (assumption log 28). -/
def Obligations.StepTakesFront : Prop :=
  ∀ (c : Instr) (rest : List Instr) (s : State), step { s with pending := c :: rest } = exec c { s with pending := rest }

/-- On an empty queue the controller takes a step of its own that is due, and otherwise one ms passes: the model's choice
(assumption log 3). A step is due exactly where the condition of its row holds, and none is due where no start and no end is:
so no ms passes while a measurement has run its fixed duration (R106), and it completes on time, with converter counts that are
free values where no row brings them, the model's choice (assumption log 42). That State tells by a field of its own whether the
pocket at entry has been assigned there (R87) is the model's (assumption log 44).
What one ms does follows R90, R106, R122, R132, R166, R171, R174, R194 and R198, and it ends as every event does, with the
following errors judged (R129). That the steps of one ms are a free number to each axis, in the senses of R122 in a homing and
short of the target of a move (R120, R131), is the model's choice (assumption log 17), and so is that the time of a debounced
input is held at 1000 ms and the receiver's at 11 ms (assumption log 24). -/
def Obligations.IdleStep : Prop :=
  ∀ s : State,
    -- the steps of its own that are due
    (let expired (w : WatchId) : Prop := (s.watch w).state = .running ∧ (s.watch w).remaining = 0
      let due (c : Instr) : Prop :=
        match c with
        | .entryMoveStart => s.entryMoveDue ≠ none
        | .loadMoveStart => s.loadMoveDue = true
        | .pickStart => s.pickDue = true
        | .driveStart => s.driveDue = true
        | .discardStart => s.discardDue = true
        | .loadStart => s.loadDue = true
        | .unloadStart => s.unloadDue = true
        | .exitRunStart => s.exitRunDue = true
        | .measurementStart => (s.line = .running ∨ s.line = .holding)
            ∧ (s.pocket (s.pocketAt 88)).state = .loaded ∧ s.verifier.flight = none
        | .measurementCompletion f r => (∃ m, s.verifier.flight = some m ∧ m.remaining = 0)
            ∧ f = (Config.converterCounts s.drawn).1.toNat ∧ r = (Config.converterCounts s.drawn).2.toNat
        | .gateStrokeStart => s.gateDue = true
        | .assignment p => s.assignmentOpen = true ∧ s.positionOf p = 0 ∧ (s.pocket p).state = .empty
            ∧ s.chain.entryTaken = false
        | .fire k => s.fireDue k = true
        | .indexRequest => s.indexDue = true
        | .tablePositioned => s.positionDue = true
        | .homingParkSettled a => a ≠ .span ∧ (s.axis a).state = .homing .park
            ∧ ∃ n, (s.axis a).parked = some n ∧ s.table.geometry.settle ≤ n
        | .fireDwellEnd k => (s.fireUnit k).dwell = some 0
        | .debouncedArrival i => s.arrivalDue i = true
        | .gapTimeout => ∃ bytes since, s.link.receiver = .inFrame bytes since ∧ 10 < since
        | .chainJam => expired .chain
        | .gateJam => expired .gate
        | .headJam => expired .head
        | .spanTimeout => expired .span
        | .tableTimeout => expired .table
        | .conveyorJam => expired .conveyor
        | .boardLate w => ∃ r, s.boardWait? w = some r ∧ r.expired = false ∧ r.remaining = 0
        | _ => False
      (∀ c, s.dueStep = some c → due c) ∧ (s.dueStep = none ↔ ∀ c, ¬due c))
    ∧ (s.pending = [] →
    (∀ c, s.dueStep = some c → step s = exec c s)
    ∧ (s.dueStep = none → ∃ t : State, step s = .next t.judge
        ∧ t.clock = (s.clock + 1) % 2 ^ 32
        ∧ (∀ k, t.fireUnit k = ⟨(s.fireUnit k).output, (s.fireUnit k).dwell.map (· - 1)⟩)
        ∧ t.verifier.flight = s.verifier.flight.map (fun m => { m with remaining := m.remaining - 1 })
        ∧ t.table.settle = s.table.settle.map (· + 1)
        ∧ (∀ a, t.axis a = { s.axis a with
            parked := if a = .span then (s.axis a).parked else (s.axis a).parked.map (· + 1)
            commanded := commandedAfter (s.axis a) (Config.stepsIssued s.drawn (axisNum a))
            slowing := slowingAfter (s.axis a) (Config.stepsIssued s.drawn (axisNum a)) })
        ∧ (∀ i, t.slow i = { s.slow i with since := min 1000 ((s.slow i).since + 1) })
        ∧ (∀ w, t.watch w =
            if (s.watch w).state = .running then ⟨.running, (s.watch w).remaining - 1⟩ else s.watch w)
        ∧ (∀ w, t.boardWait? w = (s.boardWait? w).map fun r =>
            if r.expired then r else { r with remaining := r.remaining - 1 })
        ∧ (∀ bytes since, s.link.receiver = .inFrame bytes since →
            t.link.receiver = .inFrame bytes (min 11 (since + 1)))
        ∧ t.chain = s.chain ∧ (∀ k, t.station k = s.station k) ∧ t.programs = s.programs ∧ t.boards = s.boards
        ∧ t.starved = s.starved ∧ t.head = { s.head with span := t.head.span } ∧ t.conveyor = s.conveyor
        ∧ t.alarms = s.alarms ∧ t.link.output = s.link.output ∧ t.link.input = s.link.input ∧ t.pins = s.pins
        ∧ t.pending = [] ∧ t.drawn = s.drawn + 1))

/-- No command and no step of the controller ends in a fault or a refusal: every one answers a next state. -/
def Obligations.EveryCommandCompletes : Prop :=
  (∀ (i : Instr) (s : State), ∃ t, exec i s = .next t) ∧ ∀ s : State, ∃ t, step s = .next t

/-- POWER_ON and RESET_PIN bring every block to the values its rules give for reset (R195; 00_scope section 5.5), and
the model's reset state is that of POWER_ON with every input open, low or inactive (assumption log 1). An emergency
stop that is active at the end of a reset arrives in the event of the reset (R170; assumption log 6). After a reset no pocket has
been assigned at entry (assumption log 44). -/
def Obligations.ResetEvents : Prop :=
  (AfterReset .powerOn {} State.reset ∧ State.reset.inputs.estop = false ∧ State.reset.pending = [])
    ∧ ∀ (lv : Levels) (s : State),
        (∃ u, AfterReset .powerOn lv u ∧ u.inputs.estop = false ∧ u.pending = s.pending ∧ u.drawn = s.drawn
          ∧ exec (.powerOn lv) s = .next (if lv.estop then u.estopArrive.judge else u))
        ∧ (∃ u, AfterReset .resetPin lv u ∧ u.inputs.estop = false ∧ u.pending = s.pending ∧ u.drawn = s.drawn
          ∧ exec (.resetPin lv) s = .next (if lv.estop then u.estopArrive.judge else u))

/-- RESET is answered OK, and from then on no command is taken; the reset comes in the event in which its reply has left,
with the inputs as they stand and the straps read afresh (R195, R196, R204). -/
def Obligations.ResetCommand : Prop :=
  (∀ (tag : Byte) (s : State), s.takesAtOnce →
      Answers (.reset tag) s
        { s.countAccepted with link := { s.countAccepted.link with resetAccepted := true } } 0xAD#8 tag [0x00#8])
    ∧ (∀ (tag : Byte) (rest : List Frame) (baud1 baud0 : Bool) (s : State),
        s.link.resetAccepted = true → s.link.output = ⟨0xAD#8, tag, [0x00#8]⟩ :: rest → s.inputs.estop = false →
        ∃ t, exec (.frameSent baud1 baud0) s = .next t ∧ AfterReset .resetCommand (s.levels baud1 baud0) t)
    ∧ (∀ (baud1 baud0 : Bool) (s : State),
        (s.levels baud1 baud0).pins = { s.pins with baud1 := baud1, baud0 := baud0 }
        ∧ (s.levels baud1 baud0).estop = s.inputs.estop
        ∧ ∀ i, rawLevel (s.levels baud1 baud0) i = (s.slow i).raw)

/-- DECODE AND ENCODE AGREE: the frame of every well-formed host command is read back as that command, with every field
at every value its bytes admit; a frame of a kind 2Eh..3Fh is read as an unknown kind (R197, R199, R201, R202). -/
def Obligations.CodecRoundTrip : Prop :=
  ∀ (i : Instr) (f : Frame), i.wellFormed = true → frameOf i = some f →
    readFrame f = match i with
      | .unknownKindCommand .. => .unknownKind
      | i => .command i

/-- A frame on the line, with its check (R197). The receiver takes in any frame whole: from HUNTING, the characters of a frame of 0..248 payload bytes, one after
another, leave the state in which the frame has been received with its check agreeing (R197, R198). The row of a host
command is the reception of its frame, in the input queue and out of it (R198, R199): the model's choice (assumption log
5). -/
def Obligations.ReceiverTakesFrame : Prop :=
  (∀ (f : Frame) (s : State), f.payload.length ≤ 248 → s.link.receiver = .hunting →
    f.bytes.foldl
      (fun (o : Host.Outcome State Fault Refusal) b =>
        match o with
        | .next u => exec (.rxCharacter b true) u
        | o => o)
      (.next s) = .next (s.receive f))
    ∧ (∀ (i : Instr) (f : Frame) (s : State), i.wellFormed = true → frameOf i = some f → exec i s = .next (s.receive f))
    ∧ (∀ f : Frame,
        let body : List Byte := BitVec.ofNat 8 (f.payload.length + 2) :: f.kind :: f.tag :: f.payload
        f.bytes = 0x7E#8 :: (body ++ [BitVec.ofNat 8 (crc body).toNat, BitVec.ofNat 8 ((crc body).toNat / 256)]))
    ∧ crc [] = 0xFFFF#16
    ∧ ∀ (l : List Byte) (b : Byte), crc (l ++ [b]) = (List.range 8).foldl
        (fun c _ => if c.msb then (c <<< 1) ^^^ 0x1021#16 else c <<< 1) (crc l ^^^ (b.zeroExtend 16 <<< 8))

/-- What one character does in each case of the receiver, and the end of a frame by its gap (R196, R198). -/
def Obligations.ReceiverCases : Prop :=
  ∀ (b : Byte) (s : State),
    exec (.rxCharacter b false) s = .next s
    ∧ (s.link.receiver = .hunting → b ≠ 0x7E#8 → exec (.rxCharacter b true) s = .next s)
    ∧ (s.link.receiver = .hunting → b = 0x7E#8 →
        exec (.rxCharacter b true) s = .next { s with link := { s.link with receiver := .inFrame [] 0 } })
    ∧ (∀ since, s.link.receiver = .inFrame [] since → since ≤ 10 → b.toNat < 2 ∨ 250 < b.toNat →
        exec (.rxCharacter b true) s = .next { s with link := { s.link with
          receiver := .hunting
          counters := { s.link.counters with lengthErrors := (s.link.counters.lengthErrors + 1) % 2 ^ 32 } } })
    ∧ (∀ since, s.link.receiver = .inFrame [] since → since ≤ 10 → 2 ≤ b.toNat → b.toNat ≤ 250 →
        exec (.rxCharacter b true) s = .next { s with link := { s.link with receiver := .inFrame [b] 0 } })
    ∧ (∀ bytes since, s.link.receiver = .inFrame bytes since → since ≤ 10 → bytes ≠ [] →
        bytes.length + 1 < bodyLength bytes + 3 →
        exec (.rxCharacter b true) s =
          .next { s with link := { s.link with receiver := .inFrame (bytes ++ [b]) 0 } })
    ∧ (∀ bytes since, s.link.receiver = .inFrame bytes since → since ≤ 10 → bytes ≠ [] →
        bytes.length + 1 = bodyLength bytes + 3 → frameOfBytes (bytes ++ [b]) = none →
        exec (.rxCharacter b true) s = .next { s with link := { s.link with
          receiver := .hunting
          counters := { s.link.counters with checkErrors := (s.link.counters.checkErrors + 1) % 2 ^ 32 } } })
    ∧ (∀ bytes since, s.link.receiver = .inFrame bytes since → 10 < since →
        exec (.rxCharacter b true) s = .next { s with link := { s.link with
          receiver := if b = 0x7E#8 then .inFrame [] 0 else .hunting
          counters := { s.link.counters with gapTimeouts := (s.link.counters.gapTimeouts + 1) % 2 ^ 32 } } }
        ∧ exec .gapTimeout s = .next { s with link := { s.link with
          receiver := .hunting
          counters := { s.link.counters with gapTimeouts := (s.link.counters.gapTimeouts + 1) % 2 ^ 32 } } })
    ∧ (∀ bytes since, s.link.receiver = .inFrame bytes since → since ≤ 10 → exec .gapTimeout s = .next s)

/-- While the output queue is full or a RESET has been accepted, a command joins the tail of the input queue, or overruns
it; a frame of a kind outside 01h..3Fh is counted and dropped. The frame at the head of the output queue leaves it when
it has been sent, and a command that has waited for the place is taken in that event. A reply joins the tail of the output
queue; a report does so with tag 0 while at most 14 frames are queued, and is dropped and counted while 15 or more are (R198,
R199, R200, R204). -/
def Obligations.LinkQueues : Prop :=
  ((∀ (i : Instr) (f : Frame) (s : State), i.wellFormed = true → frameOf i = some f →
      16 ≤ s.link.output.length ∨ s.link.resetAccepted = true →
      exec i s = .next
        (if s.link.input.length < 2 then
          { s with link := { s.link with
              input := s.link.input ++ [f]
              counters := { s.link.counters with accepted := (s.link.counters.accepted + 1) % 2 ^ 32 } } }
        else
          { s with link := { s.link with
              counters := { s.link.counters with inputOverruns := (s.link.counters.inputOverruns + 1) % 2 ^ 32 } } }))
    ∧ (∀ (f : Frame) (s : State), f.kind.toNat = 0 ∨ 0x3F < f.kind.toNat → s.receive f = { s with link := { s.link with
        counters := { s.link.counters with foreignKinds := (s.link.counters.foreignKinds + 1) % 2 ^ 32 } } }))
    ∧ (∀ (baud1 baud0 : Bool) (s : State),
    (s.link.output = [] → exec (.frameSent baud1 baud0) s = .next s)
    ∧ (∀ f rest, s.link.output = f :: rest → s.link.resetAccepted = false → s.link.input = [] →
        exec (.frameSent baud1 baud0) s = .next { s with link := { s.link with output := rest } })
    ∧ (∀ f rest, s.link.output = f :: rest → s.link.resetAccepted = true → ¬(f.kind = 0xAD#8 ∧ f.payload = [0x00#8]) →
        exec (.frameSent baud1 baud0) s = .next { s with link := { s.link with output := rest } })
    ∧ (∀ f rest g i, s.link.output = f :: rest → s.link.output.length ≤ 16 → s.link.resetAccepted = false →
        s.link.input = [g] → readFrame g = .command i →
        let u : State := { s with link := { s.link with output := rest, input := [] } }
        exec (.frameSent baud1 baud0) s = .next
          ((act i u).1.reply g.kind g.tag (u8 (act i u).2.code.num ++ (act i u).2.items))))
    -- a report and a reply offered to the output queue
    ∧ (∀ (kind : Byte) (payload : List Byte) (s : State),
        (s.link.output.length ≤ 14 → s.emit kind payload = { s with link := { s.link with
          output := s.link.output ++ [⟨kind, 0#8, payload⟩] } })
        ∧ (15 ≤ s.link.output.length → s.emit kind payload = { s with link := { s.link with
          counters := { s.link.counters with reportsLost := (s.link.counters.reportsLost + 1) % 2 ^ 32 } } }))
    ∧ (∀ (kind tag : Byte) (payload : List Byte) (s : State), s.reply kind tag payload = { s with link := { s.link with
        output := s.link.output ++ [⟨kind + 0x80#8, tag, payload⟩] } })

/-- A kind 2Eh..3Fh is answered UNKNOWN_KIND; a frame of the catalogue is read as a command exactly with a payload length
that section 12.6 permits, and with any other is answered BAD_LENGTH, with nothing after the code (R199). -/
def Obligations.UnknownKindAndBadLength : Prop :=
  (∀ (kind tag : Byte) (payload : List Byte) (s : State), 0x2E ≤ kind.toNat → kind.toNat ≤ 0x3F → s.takesAtOnce →
      Answers (.unknownKindCommand kind tag payload) s s.countAccepted (kind + 0x80#8) tag [0x01#8])
    ∧ (∀ f : Frame, 1 ≤ f.kind.toNat → f.kind.toNat ≤ 0x2D →
        if permittedLength f.kind.toNat f.payload.length = true then ∃ i, readFrame f = .command i
        else readFrame f = .badLength)
    ∧ (∀ (f : Frame) (s : State), readFrame f = .badLength → s.takesAtOnce → 1 ≤ f.kind.toNat → f.kind.toNat ≤ 0x3F →
        s.receive f = { s.countAccepted with link := { s.countAccepted.link with
          output := s.link.output ++ [⟨f.kind + 0x80#8, f.tag, [0x02#8]⟩] } })

/-- A command that is refused changes no state: only OK, and the failed validation of PROGRAM_END (R56), come from a changed
state. In the event of a command the reports come first and the reply last, with the kind of the command plus 80h and its
tag; the command is counted, and no other counter but reports lost moves; the reply carries the number of the result code
and the items after it (R199, R200, R204). -/
def Obligations.CommandAnswers : Prop :=
  (∀ (i : Instr) (s : State), (act i s).2.code ≠ .ok → (act i s).2.code ≠ .programInvalid → (act i s).1 = s)
    ∧ (∀ (i : Instr) (f : Frame) (s t : State), i.wellFormed = true → frameOf i = some f → s.takesAtOnce →
    exec i s = .next t →
    (∃ reports code items, t.link.output = s.link.output ++ reports ++ [⟨f.kind + 0x80#8, f.tag, code :: items⟩]
      ∧ ∀ r ∈ reports, r.tag = 0 ∧ 0x40 ≤ r.kind.toNat ∧ r.kind.toNat ≤ 0x46)
    ∧ t.link.output.length ≤ 16
    ∧ t.link.counters = { s.link.counters with
        accepted := (s.link.counters.accepted + 1) % 2 ^ 32, reportsLost := t.link.counters.reportsLost }
    ∧ t.link.input = [] ∧ t.link.receiver = s.link.receiver ∧ t.pending = s.pending ∧ t.clock = s.clock
    ∧ (readFrame f = .command i →
      let a := act i s.countAccepted
      t = a.1.reply f.kind f.tag (u8 a.2.code.num ++ a.2.items)))
    ∧ [ResultCode.ok, .unknownKind, .badLength, .badValue, .wrongState, .busy, .notFound, .inUse, .full, .sequence,
        .duplicate, .noProgram, .wrongProduct, .noTape, .stationTaken, .fenced, .pendingAlarm, .conditionPresent,
        .outOfTravel, .programInvalid].map ResultCode.num = List.range 20

/-! ## Laws that every step keeps -/

/-- Every step keeps the bounds of the link's queues and of the frame being gathered (R197, R198, R200). -/
def Obligations.QueuesBounded : Prop := KeptByEveryStep QueueLaw

/-- Every step keeps the law of R191: the line is in RUNNING only while no source is pending with class HOLD or STOP; and a
class raised stands exactly while its source is pending (R179). -/
def Obligations.RunningWithoutSeriousAlarm : Prop := KeptByEveryStep AlarmLaw

/-- Every step keeps the form of every pocket record: its optional fields are present in the states that R2 gives. -/
def Obligations.PocketRecordsFormed : Prop := KeptByEveryStep PocketLaw

/-- Every step keeps the transport, the unload request and the slots in agreement (R63, R76, R156, R159, R162, R163). -/
def Obligations.TransportAgreesWithBoards : Prop := KeptByEveryStep TransportLaw

/-- Every step keeps HOLDING away from quiescence: the event that makes a line in HOLDING quiescent makes it HELD (R189). -/
def Obligations.HoldingEndsAtQuiescence : Prop := KeptByEveryStep QuiescenceLaw

/-- Every step keeps the readiness fields equal to what they mirror, the homed flag in step with the axis states, and the
line state in step with readiness (R119, R122, R138, R141, R186, R187). -/
def Obligations.ReadinessMirrorsBlocks : Prop := KeptByEveryStep ReadinessLaw

/-- Every step keeps every setting and counted record within its range (R23, R26, R93, R114, R117, R124, R167, R175), and
every target of the loaded program within the travel limits in force (R58). -/
def Obligations.SettingsKeepRanges : Prop := KeptByEveryStep RangeLaw ∧ KeptByEveryStep TravelLaw

/-- Every step keeps the code table: its records in range and each once, the owners those that the lists name, a READY
active station for a code that is not starved and none READY for one that is (R40, R41, R42, R44, R45). -/
def Obligations.CodeTableConsistent : Prop := KeptByEveryStep CodeLaw

/-- Every step keeps the pending-fire counts in step with the ASSIGNED pockets (R25), together with the code table, whose READY
active stations are the only ones that an assignment names, and with the places of the ASSIGNED pockets and of the pocket
under the gate stroke, from which no stroke and no pick takes an ASSIGNED pocket. And every step keeps the entries: a pocket
holds an entry exactly while ASSIGNED, FIRED, LOADED or VERIFIED, the entry in that status is held by that one pocket (R3); the
return queue is exactly the QUEUED entries, each once, and at most 128 entries are in work (R70). These are kept together with
the laws above and with those of the pocket records, the transport, readiness, the places of the strokes (`StandLaw`) and what
the head holds (`HoldLaw`). -/
def Obligations.PendingCountsAgree : Prop :=
  (KeptByEveryStep fun s => CodeLaw s ∧ PlaceLaw s ∧ PendingLaw s)
    ∧ KeptByEveryStep fun s => (CodeLaw s ∧ PlaceLaw s ∧ PendingLaw s) ∧ (PocketLaw s ∧ TransportLaw s ∧ ReadinessLaw s)
      ∧ StandLaw s ∧ HoldLaw s ∧ EntryLaw s

/-- Every step keeps the outputs in step with the states of their mechanisms (R11, R17, R92, R109, R142 to R149, R152, R157,
R160 to R164): index drive, gate, fires, contacts and range, conveyor, pins and clamp, and the strokes of the head and the
clinch unit. Two outputs are not among them: the jaw air, whose end after an insertion is the model's choice (assumption log
13), and the drive enables of the axes, which ReadinessMirrorsBlocks states (R119, R120). -/
def Obligations.OutputsFollowStates : Prop := KeptByEveryStep OutputLaw

/-- Every step leaves judged what the end of an event judges (R76, R84, R144, R145, R148, R149, R159, R174, R192), and leaves no
start due that R17, R90, R94, R130, R133, R142, R145, R149, R159, R160, R162 and R163 give to the event that makes it due.
The laws of transport and of readiness are kept beside it: in RUNNING the store is LOADED.
An event ends with these judgements and starts, whose order is the model's choice (assumption log 11); the row of a start is
that start as a step of its own (the model's choice, assumption log 2), and changes nothing else where it is not due
(assumption log 4). In recovery an unowned component in SPAN_WAIT with no span move in flight is discarded (R154; at once where
none was kept, assumption log 41). -/
def Obligations.EventsEndSettled : Prop :=
  (KeptByEveryStep fun s => TransportLaw s ∧ ReadinessLaw s ∧ SettledLaw s)
    ∧ ∀ s : State,
      (let u := s.judgeAxes.judgeHead.judgeBoards.startStroke.startDiscard.judgeDiscard
        let v := u.judgeMoves.startPick.startDrive.startLoad.startUnload.startExitRun
        s.judge = v.judgeStarved.judgeBoardWait.judgeRecovery.judgeQuiescent)
      ∧ s.judgeHead = s.judgeSpanMove.judgeForm.judgeRise.judgeDiscard
      ∧ s.judgeBoards = (completeActive 2 s).judgeEntryWait.judgeEntryRun.judgeLoadRequest
      ∧ s.judgeMoves = (if s.entryMoveDue ≠ none ∨ s.loadMoveDue = true then s.startEntryMove.startLoadMove.judgeAxes else s)
      ∧ exec .gateStrokeStart s = .next s.startStroke.judge ∧ (s.gateDue = false → s.startStroke = s)
      ∧ exec .entryMoveStart s = .next s.startEntryMove.judge ∧ (s.entryMoveDue = none → s.startEntryMove = s)
      ∧ exec .loadMoveStart s = .next s.startLoadMove.judge ∧ (s.loadMoveDue = false → s.startLoadMove = s)
      ∧ exec .pickStart s = .next s.startPick.judge ∧ (s.pickDue = false → s.startPick = s)
      ∧ exec .driveStart s = .next s.startDrive.judge ∧ (s.driveDue = false → s.startDrive = s)
      ∧ exec .discardStart s = .next s.startDiscard.judge ∧ (s.discardDue = false → s.startDiscard = s)
      ∧ exec .loadStart s = .next s.startLoad.judge ∧ (s.loadDue = false → s.startLoad = s)
      ∧ exec .unloadStart s = .next s.startUnload.judge ∧ (s.unloadDue = false → s.startUnload = s)
      ∧ exec .exitRunStart s = .next s.startExitRun.judge ∧ (s.exitRunDue = false → s.startExitRun = s)

/-- The state right after reset meets all the laws. -/
def Obligations.ResetMeetsLaws : Prop := Lawful State.reset

/-! ## Frames -/

/-- The machine events: the rows that neither bring a host command nor end in a reset. The field that tells whether the pocket at
entry has been assigned there is the model's (R87; assumption log 44). -/
def Obligations.MachineEventsFrame : Prop :=
  ∀ (i : Instr) (s t : State), frameOf i = none → exec i s = .next t →
    (∀ b stop, i ≠ .rxCharacter b stop) → (∀ b1 b0, i ≠ .frameSent b1 b0) → (∀ lv, i ≠ .powerOn lv) →
    (∀ lv, i ≠ .resetPin lv) →
    -- the program, the settings and the definitions of codes and groups belong to the host's commands
    t.programs = s.programs
    ∧ t.stations.codes.map (fun c => (c.number, c.stations, c.span, c.clinch, c.remake, c.spec))
        = s.stations.codes.map (fun c => (c.number, c.stations, c.span, c.clinch, c.remake, c.spec))
    ∧ t.stations.groups = s.stations.groups ∧ t.stations.defaultClass = s.stations.defaultClass
    ∧ t.stations.dwellLength = s.stations.dwellLength
    ∧ (∀ k, (t.station k).owner = (s.station k).owner ∧ (t.station k).load = (s.station k).load
        ∧ (t.station k).low = (s.station k).low)
    ∧ t.verifier.threshold = s.verifier.threshold ∧ t.table.geometry = s.table.geometry
    ∧ t.inputs.timeouts = s.inputs.timeouts ∧ t.inputs.tapeTime = s.inputs.tapeTime
    ∧ t.inputs.airTime = s.inputs.airTime ∧ t.inputs.guardTime = s.inputs.guardTime
    ∧ t.alarms.slots = s.alarms.slots ∧ t.alarms.line.cause = s.alarms.line.cause
    ∧ t.link.baud = s.link.baud ∧ t.link.input = s.link.input ∧ t.clock = s.clock ∧ t.pending = s.pending
    -- C moves at an index completion alone, and a counter at its encoder or its switch edge alone
    ∧ (t.chain.c ≠ s.chain.c → ∃ seen, i = .indexCompletion seen)
    ∧ (t.chain.entryTaken ≠ s.chain.entryTaken → (∃ seen, i = .indexCompletion seen) ∨ ∃ p, i = .assignment p)
    ∧ (∀ a, (t.axis a).counter ≠ (s.axis a).counter →
        (∃ positive n, i = .encoderCount a positive n) ∨ i = .homeSwitchArrival a true)
    -- a pocket record is changed by the steps of the chain, the stations, the verifier and the pick alone
    ∧ (t.chain.pockets ≠ s.chain.pockets →
        (∃ seen, i = .indexCompletion seen) ∨ (∃ p, i = .assignment p) ∨ (∃ k, i = .fire k) ∨ i = .gateStrokeCompletion
          ∨ i = .measurementStart ∨ (∃ f r, i = .measurementCompletion f r) ∨ i = .pickCompletion)
    -- the reel is counted by fires alone, by one: the row FIRE, and the fires that an index completion makes due
    ∧ (∀ k, (t.station k).reel ≠ (s.station k).reel →
        (i = .fire k ∨ ∃ seen, i = .indexCompletion seen) ∧ (t.station k).reel + 1 = (s.station k).reel)

/-- What a command taken at its arrival leaves as it is: each block's settings and records change by its own commands
alone. The cut-confirm levels last seen change at READ_HEAD, which reads them (assumption log 22: the model's choice). The field
that tells whether the pocket at entry has been assigned there is the model's too (R87; assumption log 44). -/
def Obligations.CommandsFrame : Prop :=
  ∀ (i : Instr) (f : Frame) (s t : State), i.wellFormed = true → frameOf i = some f → s.takesAtOnce →
    exec i s = .next t →
    (t.programs ≠ s.programs → f.kind.toNat ∈ [0x0C, 0x0D, 0x0E, 0x0F])
    ∧ (t.chain ≠ s.chain → f.kind.toNat ∈ [0x12, 0x14, 0x28, 0x29, 0x2B] ∨ s.gateDue = true)
    ∧ t.chain.c = s.chain.c ∧ t.chain.entryTaken = s.chain.entryTaken
    ∧ (t.chain.gateStroke ≠ s.chain.gateStroke →
        s.chain.gateStroke = none ∧ t.chain.gateStroke = some (s.pocketAt 90))
    ∧ (t.stations ≠ s.stations →
        f.kind.toNat ∈ [0x03, 0x04, 0x05, 0x06, 0x08, 0x09, 0x0A, 0x12, 0x14, 0x16, 0x1F, 0x28, 0x29])
    ∧ (t.table.geometry ≠ s.table.geometry → f.kind.toNat = 0x1B)
    ∧ (t.verifier.threshold ≠ s.verifier.threshold → f.kind.toNat = 0x18)
    ∧ (t.inputs.timeouts ≠ s.inputs.timeouts → f.kind.toNat = 0x21)
    ∧ (t.alarms.slots ≠ s.alarms.slots → f.kind.toNat = 0x23)
    ∧ ((∃ src, (s.source src).pending = true ∧ (t.source src).pending = false) → f.kind.toNat = 0x24)
    ∧ (∀ i, t.slow i ≠ s.slow i → f.kind.toNat = 0x1F)
    ∧ (∀ a, (t.axis a).counter = (s.axis a).counter ∧ (t.axis a).commanded = (s.axis a).commanded)
    ∧ (t.pins ≠ s.pins → f.kind.toNat = 0x1D)
    ∧ t.pins = { s.pins with cutLeft := t.pins.cutLeft, cutRight := t.pins.cutRight }
    ∧ t.inputs.estop = s.inputs.estop ∧ t.alarms.line.cause = s.alarms.line.cause
    ∧ t.link.baud = s.link.baud ∧ t.clock = s.clock ∧ t.pending = s.pending

/-- The capture record, once valid, keeps its contents through every command but CLEAR_CAPTURE that finds the input queue
empty, and through every machine event but a reset, a character received and a frame sent, which may bring a CLEAR_CAPTURE
or a RESET; its overflow count falls by none of them (R183). -/
def Obligations.CaptureKept : Prop :=
  ∀ (i : Instr) (s t : State) (c : Captured), s.alarms.capture.content = some c → s.alarms.capture.overflow ≤ 255 →
    i.wellFormed = true → exec i s = .next t →
    (∀ tag, i ≠ .clearCapture tag) → (∀ b stop, i ≠ .rxCharacter b stop) → (∀ b1 b0, i ≠ .frameSent b1 b0) →
    (∀ lv, i ≠ .powerOn lv) → (∀ lv, i ≠ .resetPin lv) → s.link.input = [] →
    t.alarms.capture.content = some c ∧ s.alarms.capture.overflow ≤ t.alarms.capture.overflow
      ∧ t.alarms.capture.overflow ≤ 255

/-! ## The reading commands -/

/-- READ_CHAIN, READ_POCKET, READ_STATION and READ_CODE answer what stands when they are taken and change nothing else
(R21, R22, R36, R43; section 2.4), with the bytes of numbers and optional items, and the numbers of the named values (R201).
A record of a pocket, a station or a fire unit reads as it was last written, and no other with it. The bytes of a code record
beyond its list length are free (assumption log 10). -/
def Obligations.ReadsOfChainAndStations : Prop :=
  ∀ (tag : Byte) (s : State), s.takesAtOnce →
    Answers (.readChain tag) s s.countAccepted 0x81#8 tag
      (0x00#8 :: (u8 s.chain.c.val ++ u8 s.chain.index.num ++ yn s.workPresent
        ++ u8 (s.holdFire.toNat + 2 * s.holdVerify.toNat + 4 * s.holdGate.toNat + 8 * s.holdTransfer.toNat)
        ++ [PocketState.unknown, .empty, .assigned, .fired, .loaded, .verified, .rejected, .orphan].flatMap
            fun st => u8 (s.pocketCount st)))
    ∧ (∀ p : Fin 128,
        Answers (.readPocket tag p.val) s s.countAccepted 0x82#8 tag
          (0x00#8 :: (u8 p.val ++ u8 (s.pocket p).state.num ++ opt EntryRef.bytes (s.pocket p).entry
            ++ opt (fun k : Fin 80 => u8 k.val) (s.pocket p).station ++ opt (fun r : VerifyResult => u8 r.num) (s.pocket p).result
            ++ opt (fun c : PocketCause => u8 c.num) (s.pocket p).cause ++ u8 ((p.val + s.chain.c.val) % 128))))
    ∧ (∀ p, 127 < p → Answers (.readPocket tag p) s s.countAccepted 0x82#8 tag [0x03#8])
    ∧ (∀ k : Fin 80,
        Answers (.readStation tag k.val) s s.countAccepted 0x87#8 tag
          (0x00#8 :: (u8 k.val ++ opt u16 (s.station k).owner ++ u8 (s.station k).state.num ++ u16 (s.station k).reel
            ++ u16 (s.station k).load ++ u16 (s.station k).low ++ yn (s.station k).lowArmed
            ++ yn (s.station k).underrun ++ u8 (s.station k).failRun ++ u8 (s.station k).pending
            ++ yn (s.station k).tape ++ u8 ((s.stations.groupOf k.val).elim 4 Fin.val)
            ++ u8 (s.stations.classOf k.val).num
            ++ yn ((s.station k).owner.any fun n => s.activeStation n = some k))))
    ∧ (∀ k, 79 < k → Answers (.readStation tag k) s s.countAccepted 0x87#8 tag [0x03#8])
    ∧ (∀ n, n < 1 ∨ 9999 < n → Answers (.readCode tag n) s s.countAccepted 0x8B#8 tag [0x03#8])
    ∧ (∀ n, 1 ≤ n → n ≤ 9999 → s.code? n = none → Answers (.readCode tag n) s s.countAccepted 0x8B#8 tag [0x06#8])
    ∧ (∀ n c, 1 ≤ n → n ≤ 9999 → s.code? n = some c →
        Answers (.readCode tag n) s
          { s.countAccepted with drawn := if c.stations.length < 4 then s.drawn + 1 else s.drawn } 0x8B#8 tag
          (0x00#8 :: (u16 c.number ++ u8 c.stations.length
            ++ [0, 1, 2, 3].flatMap (fun i => (c.stations[i]?).elim [Config.padByte s.drawn i] fun k => u8 k.val)
            ++ u16 c.span ++ u8 c.clinch.num ++ u8 c.remake ++ u8 c.spec.kind.num ++ u16 c.spec.m ++ i8 c.spec.e
            ++ u16 c.spec.tl ++ u16 c.spec.th
            ++ opt (fun k : Fin 80 => u8 k.val) (if c.starved then none else c.stations[c.active]?)
            ++ u8 c.stations.length ++ c.stations.flatMap fun k => u8 (s.station k).state.num)))
    ∧ (∀ st, s.pocketCount st = (List.finRange 128).countP fun p => decide ((s.pocket p).state = st))
    ∧ (∀ n c, s.code? n = some c → c ∈ s.stations.codes ∧ c.number = n
        ∧ s.activeStation n = if c.starved then none else c.stations[c.active]?)
    ∧ (∀ n, (s.code? n = none ↔ ∀ c ∈ s.stations.codes, c.number ≠ n) ∧ (s.code? n = none → s.activeStation n = none))
    -- the layouts of the link
    ∧ (∀ n : Nat, u8 n = [BitVec.ofNat 8 n] ∧ u16 n = [BitVec.ofNat 8 n, BitVec.ofNat 8 (n / 256)]
        ∧ u32 n = [BitVec.ofNat 8 n, BitVec.ofNat 8 (n / 256), BitVec.ofNat 8 (n / 65536), BitVec.ofNat 8 (n / 16777216)])
    ∧ (∀ n : Int, i8 n = u8 (BitVec.ofInt 8 n).toNat ∧ i32 n = u32 (BitVec.ofInt 32 n).toNat)
    ∧ (∀ b, yn b = [if b then 1#8 else 0#8])
    ∧ (∀ (α : Type) (f : α → List Byte), opt f none = [0#8] ∧ (∀ a, opt f (some a) = 1#8 :: f a)
        ∧ ∀ l, counted f l = u8 l.length ++ l.flatMap f)
    ∧ (∀ ref : EntryRef, ref.bytes = u32 ref.board ++ u16 ref.index)
    ∧ [IndexState.idle, .inFlight, .interrupted].map IndexState.num = List.range 3
    ∧ [PocketState.unknown, .empty, .assigned, .fired, .loaded, .verified, .rejected, .orphan].map PocketState.num
      = List.range 8
    ∧ [VerifyResult.pass, .low, .high, .overRange, .polarity].map VerifyResult.num = List.range 5
    ∧ [PocketCause.verify, .skipped, .abandoned, .stray].map PocketCause.num = List.range 4
    ∧ [StationState.unloaded, .ready, .empty, .locking, .locked, .quarantined, .fault].map StationState.num = List.range 7
    ∧ [AlarmClass.none, .warn, .hold, .stop].map AlarmClass.num = List.range 4
    ∧ [ClinchMode.inward, .outward, .none].map ClinchMode.num = List.range 3
    ∧ [VerifyKind.none, .res, .cap, .diode, .link].map VerifyKind.num = List.range 5
    -- a record written
    ∧ (∀ p k, s.setPocket p k = { s with chain := { s.chain with pockets := (s.setPocket p k).chain.pockets } }
        ∧ ∀ q, (s.setPocket p k).pocket q = if q = p then k else s.pocket q)
    ∧ (∀ k r, s.setStation k r = { s with stations := { s.stations with recs := (s.setStation k r).stations.recs } }
        ∧ ∀ j, (s.setStation k r).station j = if j = k then r else s.station j)
    ∧ (∀ k f, s.setFireUnit k f = { s with stations := { s.stations with fires := (s.setFireUnit k f).stations.fires } }
        ∧ ∀ j, (s.setFireUnit k f).fireUnit j = if j = k then f else s.fireUnit j)

/-- READ_PROGRAM, READ_BOARD, READ_ASSIGNMENT and READ_VERIFIER answer what stands when they are taken (R61, R79, R101,
R118), with the bytes of the last outcome and of a verification, the blocking entries (R83), and the numbers of the named
values (R199, R201). The presence bytes item by item and the number of a verification are the model's choice (assumption log 14), and so
are the zeros sent for a candidate that names no entry (assumption log 16). -/
def Obligations.ReadsOfBoardsAndDispensing : Prop :=
  (∀ (tag : Byte) (s : State), s.takesAtOnce →
    (s.programs.store = .empty →
      Answers (.readProgram tag) s s.countAccepted 0x90#8 tag
        (0x00#8 :: 0x00#8 :: (outcomeBytes s.programs.outcome ++ [0#8, 0#8, 0#8] ++ yn s.boardPresent)))
    ∧ (∀ h l, s.programs.store = .receiving h l →
        Answers (.readProgram tag) s s.countAccepted 0x90#8 tag
          (0x00#8 :: 0x01#8 :: (outcomeBytes s.programs.outcome ++ [1#8] ++ u32 h.product ++ u16 h.steps ++ u8 h.images
            ++ u8 h.order.num ++ [1#8] ++ u16 l.length ++ [0#8] ++ yn s.boardPresent)))
    ∧ (∀ h l r n, s.programs.store = .loaded h l r n →
        Answers (.readProgram tag) s s.countAccepted 0x90#8 tag
          (0x00#8 :: 0x02#8 :: (outcomeBytes s.programs.outcome ++ [1#8] ++ u32 h.product ++ u16 h.steps ++ u8 h.images
            ++ u8 h.order.num ++ [1#8] ++ u16 l.length ++ [1#8] ++ u16 r.length ++ u16 n ++ yn s.boardPresent)))
    ∧ (∀ slot index, 1 < slot → Answers (.readBoard tag slot index) s s.countAccepted 0x95#8 tag [0x03#8])
    ∧ (∀ slot index, slot ≤ 1 → (if slot = 0 then s.boards.active else s.boards.next) = none →
        Answers (.readBoard tag slot index) s s.countAccepted 0x95#8 tag [0x06#8])
    ∧ (∀ slot b, slot ≤ 1 → (if slot = 0 then s.boards.active else s.boards.next) = some b →
        Answers (.readBoard tag slot none) s s.countAccepted 0x95#8 tag (0x00#8 :: s.boardItems b))
    ∧ (∀ slot b i, slot ≤ 1 → (if slot = 0 then s.boards.active else s.boards.next) = some b → b.entries.length ≤ i →
        Answers (.readBoard tag slot (some i)) s s.countAccepted 0x95#8 tag [0x03#8])
    ∧ (∀ slot b i e, slot ≤ 1 → (if slot = 0 then s.boards.active else s.boards.next) = some b →
        b.entries[i]? = some e →
        Answers (.readBoard tag slot (some i)) s s.countAccepted 0x95#8 tag
          (0x00#8 :: (s.boardItems b ++ u16 i ++ u8 e.image ++ u16 e.step ++ u16 e.sect ++ u16 e.code ++ u16 e.span
            ++ u8 e.clinch.num ++ u8 e.drive.num ++ e.verification.bytes ++ u8 e.remakeLimit ++ u8 e.status.num
            ++ u8 e.remakes ++ opt (fun p : Fin 128 => u8 p.val) e.pocket ++ opt (fun c : EntryCause => u8 c.num) e.cause ++ yn e.unclinched
            ++ yn e.hostRemake
            ++ opt u8 (if e.status = .queued then s.boards.queue.findIdx? (fun r => r = ⟨b.id, i⟩) else none))))
    ∧ (∀ b : Board, s.boardItems b =
        u32 b.id ++ u32 b.product ++ u16 b.mask ++ u16 b.entries.length ++ yn b.fenced ++ u8 b.phase.num
          ++ yn b.abandoned ++ yn b.completing
          ++ [EntryStatus.pending, .queued, .assigned, .fired, .loaded, .verified, .inHead, .failedOpen, .inserted,
              .unclinched, .failed, .missed, .skipped].flatMap
                (fun st => u16 (b.entries.countP fun e => e.status = st))
          ++ u16 (b.entries.countP fun e => e.unclinched) ++ u8 s.boards.queue.length
          ++ u8 (s.boards.queue.countP fun r => r.board = b.id)))
    ∧ (∀ (tag : Byte) (s : State), s.takesAtOnce →
    Answers (.readAssignment tag) s s.countAccepted 0x97#8 tag
      (0x00#8 :: (yn s.assignmentOpen
        ++ opt (fun c : EntryRef × CandidateSource =>
            u32 c.1.board ++ u16 c.1.index ++ u8 (((s.entry? c.1).map (·.image)).getD 0)
              ++ u16 (((s.entry? c.1).map (·.step)).getD 0) ++ u16 (((s.entry? c.1).map (·.code)).getD 0)
              ++ u8 (match c.2 with | .queue => 0 | .activeList => 1 | .nextList => 2)) s.candidate
        ++ u8 (match s.wait with | .none => 0 | .barrier => 1 | .starved => 2)
        ++ opt (fun i : Nat => u16 ((s.candidate.map fun c => s.blocking c.1).getD []).length ++ u16 i)
            ((s.candidate.map fun c => s.blocking c.1).getD []).head?
        ++ opt (fun w : StarvedWait => u32 w.entry.board ++ u16 w.entry.index ++ u16 w.code) s.starved
        ++ u8 s.stations.dwellLength ++ u8 s.firesDue ++ u8 s.dwellsRunning))
    ∧ Answers (.readVerifier tag) s s.countAccepted 0x99#8 tag
      (0x00#8 :: (u8 s.verifier.flight.isSome.toNat
        ++ (match s.verifier.flight with
          | none => [0#8, 0#8, 0#8, 0#8, 0#8, 0#8, 0#8, 0#8, 0#8, 0#8]
          | some m => 1#8 :: u8 m.pocket.val ++ 1#8 :: (u32 m.entry.board ++ u16 m.entry.index) ++ 1#8 :: u8 m.station.val
            ++ 1#8 :: u16 m.code ++ 1#8 :: u8 m.kind.num ++ 1#8 :: u16 m.mant ++ 1#8 :: i8 m.expo ++ 1#8 :: u16 m.tl
            ++ 1#8 :: u16 m.th ++ 1#8 :: u8 m.duration)
        ++ opt (fun j : Judgement => u8 j.pocket.val ++ u32 j.entry.board ++ u16 j.entry.index ++ u8 j.station.val ++ u16 j.code
            ++ u8 j.kind.num ++ u8 (match j.result with | .measured r => r.num | .notMeasured => 5)
            ++ opt u16 j.reading ++ u32 j.time) s.verifier.last
        ++ u8 s.verifier.threshold ++ u32 s.verifier.counts.pass ++ u32 s.verifier.counts.low
        ++ u32 s.verifier.counts.high ++ u32 s.verifier.counts.overRange ++ u32 s.verifier.counts.polarity
        ++ u32 s.verifier.counts.notMeasured ++ u32 s.verifier.counts.abandoned)))
    -- the last outcome, a verification, the blocking entries and the counts of fires, and the numbers of the named values
    ∧ (outcomeBytes .none = [0, 0, 0] ∧ outcomeBytes .ok = [9, 0, 0]
      ∧ ∀ why step image, outcomeBytes (.failed why step image) = u8 why.num ++ opt u16 step ++ opt u8 image)
    ∧ (Verification.bypass.bytes = [0]
      ∧ ∀ v, (Verification.check v).bytes = 1#8 :: (u8 v.kind.num ++ u16 v.m ++ i8 v.e ++ u16 v.tl ++ u16 v.th))
    ∧ (∀ (s : State) (ref : EntryRef) (b : Board) (e : Entry), s.board? ref.board = some b → s.entry? ref = some e →
      (s.blocking ref).Pairwise (· < ·)
      ∧ ∀ j, j ∈ s.blocking ref ↔ e.hostRemake = false ∧ ∃ o, b.entries[j]? = some o ∧ o.image = e.image ∧ o.sect < e.sect
        ∧ o.hostRemake = false
        ∧ (o.status = .pending ∨ o.status = .queued ∨ o.status = .assigned ∨ o.status = .fired ∨ o.status = .loaded))
    ∧ (∀ s : State, s.firesDue = (List.finRange 80).countP (fun k => s.fireDue k)
      ∧ s.dwellsRunning = (List.finRange 80).countP fun k => (s.fireUnit k).dwell.isSome)
    ∧ [ListOrder.imageMajor, .stepMajor].map ListOrder.num = List.range 2
    ∧ [ProgramFault.incomplete, .undefinedStep, .modifierValue, .unknownCode, .spanRange, .danglingModifier, .outOfTravel,
        .noInsert].map ProgramFault.num = [1, 2, 3, 4, 5, 6, 7, 8]
    ∧ [EntryStatus.pending, .queued, .assigned, .fired, .loaded, .verified, .inHead, .failedOpen, .inserted, .unclinched,
        .failed, .missed, .skipped].map EntryStatus.num = List.range 13
    ∧ [EntryCause.fenced, .limit, .abandoned, .leadMiss, .halted, .lost].map EntryCause.num = List.range 6
    ∧ [DriveMode.normal, .soft].map DriveMode.num = List.range 2
    ∧ [Phase.waiting, .loading, .clamped, .unloading].map Phase.num = List.range 4

/-- READ_TABLE, READ_HEAD and READ_CONVEYOR answer what stands when they are taken (R137, R155, R165). The record of
the span axis comes in the order of its fields (R119, R140, R201); the axes and their states have their numbers (R201), and an
axis record reads as it was last written. The numbers of a purpose, of halted-from and of the stages
and the byte of a load or an unload request are the model's choice (assumption log 14), and the two cut-confirm levels are free
(assumption log 22). -/
def Obligations.ReadsOfMotion : Prop :=
  ∀ (tag : Byte) (s : State), s.takesAtOnce →
    let purpose (p : Option Purpose) : List Byte :=
      match p with
      | none => [0#8]
      | some (.entry ref) => 1#8 :: 0#8 :: (u32 ref.board ++ u16 ref.index)
      | some .load => [1#8, 1#8]
    let axis (a : AxisRec) : List Byte :=
      u8 a.state.num ++ i32 a.counter ++ i32 a.commanded ++ opt i32 a.target ++ yn a.homed ++ yn a.drive
    let record (a : AxisRec) : List Byte :=
      i32 a.counter ++ i32 a.commanded ++ opt i32 a.target ++ yn a.homed ++ yn a.drive ++ u8 a.state.num
    let input (made : Bool) : List Byte := [if made then 0#8 else 1#8]
    Answers (.readTable tag) s s.countAccepted 0x9C#8 tag
      (0x00#8 :: (axis s.table.x ++ axis s.table.y ++ axis s.table.r
        ++ purpose s.table.purpose ++ yn s.table.inFlight ++ yn s.table.positioned ++ purpose s.table.kept
        ++ yn s.table.loadRequest ++ yn s.table.settle.isSome ++ yn s.table.atLoad ++ geometryBytes s.table.geometry))
    ∧ (let cut := Config.cutConfirm s.drawn
      let from' (src : HaltedFrom) : List Byte :=
        match src with
        | .top => [0, 0] | .pickStroke => [1, 1, 0] | .pickSpanWait => [1, 1, 1] | .form => [2, 0] | .wait => [3, 0]
        | .drive => [4, 0] | .clinch => [5, 0] | .rise => [6, 0] | .discard => [7, 0] | .reset => [9, 0]
      Answers (.readHead tag) s
        { s.countAccepted with pins := { s.pins with cutLeft := cut.1, cutRight := cut.2 }, drawn := s.drawn + 1 } 0x9D#8 tag
        (0x00#8 :: ((match s.head.state with
          | .top => [0, 0] | .pickStroke => [1, 1, 0] | .pickSpanWait => [1, 1, 1] | .form => [2, 0] | .wait => [3, 0]
          | .drive _ _ => [4, 0] | .clinch => [5, 0] | .rise => [6, 0] | .discard => [7, 0] | .halted _ _ => [8, 0])
        ++ opt (fun h : HeldEntry => u32 h.ref.board ++ u16 h.ref.index ++ u16 h.span ++ u8 h.clinch.num ++ u8 h.drive.num)
            s.head.held
        ++ yn s.head.unowned
        ++ (match s.head.state with | .drive l r => 1#8 :: (yn l ++ yn r) | _ => [0#8])
        ++ (match s.head.state with | .halted src air => 1#8 :: (from' src ++ 1#8 :: yn air) | _ => [0#8, 0#8])
        ++ yn s.head.boardWait
        ++ (match s.head.clinch with
          | .retracted => [0, 0]
          | .stroking d => [1, 1, if d = .inward then 0 else 1]
          | .retracting => [2, 0]
          | .stopped none => [3, 0]
          | .stopped (some d) => [3, 1, if d = .inward then 0 else 1])
        ++ u32 s.head.counts.picks ++ u32 s.head.counts.inserted ++ u32 s.head.counts.unclinched
        ++ u32 s.head.counts.failedOpen ++ u32 s.head.counts.discards ++ record s.head.span ++ opt i32 s.head.keptSpan
        ++ input s.pins.headTop ++ input s.pins.clinchHome ++ input s.pins.jawsOpen ++ input cut.1 ++ input cut.2)))
    ∧ Answers (.readConveyor tag) s s.countAccepted 0x9E#8 tag
      (0x00#8 :: ((match s.conveyor.state with
        | .empty => [0, 0] | .entryWait => [1, 1, 0] | .entryRun _ _ => [1, 1, 1] | .clamping => [2, 0]
        | .clamped => [3, 0] | .unclamping => [4, 1, 2] | .tableWait => [4, 1, 3] | .unloading _ _ => [5, 0])
        ++ opt u32 s.conveyor.board
        ++ (match s.conveyor.state with
          | .entryRun halted reached => 1#8 :: (yn halted ++ 1#8 :: (yn reached ++ [0#8]))
          | .unloading halted seen => 1#8 :: (yn halted ++ 0#8 :: 1#8 :: yn seen)
          | _ => [0#8, 0#8, 0#8])
        ++ yn s.conveyor.unloadRequest ++ u32 s.conveyor.loads ++ u32 s.conveyor.unloads
        ++ input s.pins.entrySensor ++ input s.pins.stopSensor ++ input s.pins.exitSensor ++ input s.pins.clampClosed
        ++ input s.pins.clampOpen ++ yn s.table.atLoad ++ yn s.table.loadRequest))
    -- the numbers of the axes and of their states, and an axis record written
    ∧ [Axis.x, .y, .r, .span].map axisNum = List.range 4
    ∧ ([AxisState.unhomed, .idle, .moving, .settling, .inPosition].map AxisState.num = [0, 2, 3, 4, 5]
      ∧ ∀ stage, (AxisState.homing stage).num = 1)
    ∧ ∀ a v, (∀ b, (s.setAxis a v).axis b = if b = a then v else s.axis b)
      ∧ s.setAxis a v = { s with
        table := { s.table with x := (s.setAxis a v).axis .x, y := (s.setAxis a v).axis .y, r := (s.setAxis a v).axis .r }
        head := { s.head with span := (s.setAxis a v).axis .span } }

/-- READ_INPUTS, READ_WATCHES, READ_CAPTURE, READ_ALARMS and GET_STATUS answer what stands when they are taken (R168, R176,
R184, R185, R194, R201, R204), with the state of the BOARD watch as its waits give it (R174), the compact form of an alarm
context (R201) and a slot (R194), the timeouts in force (R175), the order of the inputs and the sources and the numbers of the
named values (R168, R177, R201). A record of a watch, an input or a source reads as it was last written. The byte of the emergency-stop input, the bytes of a wait and the presence byte of each item
of READ_CAPTURE are the model's choice (assumption log 14). -/
def Obligations.ReadsOfControl : Prop :=
  ∀ (tag : Byte) (s : State), s.takesAtOnce →
    Answers (.readInputs tag) s s.countAccepted 0xA0#8 tag
      (0x00#8 :: (allSlow.flatMap (fun i => [if (s.slow i).raw then 0#8 else 1#8] ++ u8 (s.slow i).state.num)
        ++ yn s.inputs.estop ++ u16 s.inputs.tapeTime ++ u16 s.inputs.airTime ++ u16 s.inputs.guardTime))
    ∧ Answers (.readWatches tag) s s.countAccepted 0xA2#8 tag
      (0x00#8 :: ([WatchId.chain, .gate, .head, .span, .table, .conveyor].flatMap (fun w =>
          u8 (s.watch w).state.num ++ u16 (s.watch w).remaining ++ u16 (s.timeout w))
        ++ u8 s.inputs.boardWatch.1.num ++ u16 s.inputs.boardWatch.2 ++ u16 s.inputs.timeouts.board
        ++ waitBytes (fun r => u32 r.board) s.inputs.transportWait
        ++ waitBytes (fun r => u32 r.board ++ u16 (r.index.getD 0)) s.inputs.headWait))
    ∧ (s.alarms.capture.content = none →
        Answers (.readCapture tag) s s.countAccepted 0xA5#8 tag
          (0x00#8 :: ([0#8, 0#8, 0#8, 0#8, 0#8, 0#8] ++ u8 s.alarms.capture.overflow)))
    ∧ (∀ c, s.alarms.capture.content = some c →
        Answers (.readCapture tag) s s.countAccepted 0xA5#8 tag
          (0x00#8 :: ([1#8, 1#8] ++ u8 c.source.num ++ [1#8] ++ u8 c.cls.num ++ [1#8] ++ u8 c.line.num ++ [1#8]
            ++ c.context.bytes ++ [1#8] ++ u32 c.time ++ u8 s.alarms.capture.overflow)))
    ∧ Answers (.readAlarms tag) s s.countAccepted 0xA7#8 tag
      (0x00#8 :: (allSources.flatMap (fun src =>
          u8 ((s.source src).pending.toNat + 2 * (s.source src).condition.toNat + 4 * (s.source src).cls.num)
            ++ u8 (s.source src).count ++ (s.source src).context.bytes)
        ++ u8 s.alarms.slots.guardAir.num ++ u8 s.alarms.slots.transport.num ++ u8 s.alarms.slots.supply.num
        ++ u8 s.alarms.slots.insert.num ++ yn s.alarms.capture.content.isSome))
    ∧ Answers (.getStatus tag) s s.countAccepted 0xAC#8 tag
      (0x00#8 :: (u8 s.line.num ++ yn s.alarms.line.programLoaded ++ yn s.alarms.line.homedX ++ yn s.alarms.line.homedY
        ++ yn s.alarms.line.homedR ++ yn s.alarms.line.homedSpan ++ yn s.alarms.line.headHalted
        ++ u8 s.programs.store.num ++ slotSummary s.boards.active ++ slotSummary s.boards.next
        ++ u8 s.boards.queue.length
        ++ counted (fun src => u8 src.num ++ u8 (s.source src).cls.num)
            (allSources.filter fun src => (s.source src).pending)
        ++ yn s.alarms.capture.content.isSome ++ u8 s.alarms.line.cause.num
        ++ u32 ((s.link.counters.accepted + 1) % 2 ^ 32) ++ u32 s.link.counters.checkErrors
        ++ u32 s.link.counters.lengthErrors ++ u32 s.link.counters.gapTimeouts ++ u32 s.link.counters.foreignKinds
        ++ u32 s.link.counters.inputOverruns ++ u32 s.link.counters.reportsLost ++ u32 s.clock))
    -- the BOARD watch as its waits give it, a wait, an alarm context and a slot on the link
    ∧ (∀ i : Inputs,
      let waits : List WaitRec := i.transportWait.toList ++ i.headWait.toList
      ((∃ r ∈ waits, r.expired = true) → i.boardWatch = (.expired, 0))
      ∧ (waits = [] → i.boardWatch = (.idle, 0))
      ∧ (waits ≠ [] → (∀ r ∈ waits, r.expired = false) → i.boardWatch.1 = .running
        ∧ (∃ r ∈ waits, r.remaining = i.boardWatch.2) ∧ ∀ r ∈ waits, i.boardWatch.2 ≤ r.remaining))
    ∧ (∀ context : WaitRec → List Byte,
      waitBytes context none = [0, 0, 0, 0]
      ∧ ∀ r : WaitRec, waitBytes context (some r) =
        (if r.expired then [2, 0, 0] else 1#8 :: u16 r.remaining) ++ 1#8 :: context r)
    ∧ (∀ c : Context,
      let flag (present : Bool) (n : Nat) : Nat := if present then n else 0
      c.bytes = u8 (flag c.station.isSome 1 + flag c.pocket.isSome 2 + flag c.board.isSome 4 + flag c.index.isSome 8
          + flag c.code.isSome 16)
        ++ (c.station.map u8).getD [] ++ (c.pocket.map u8).getD [] ++ (c.board.map u32).getD []
        ++ (c.index.map u16).getD [] ++ (c.code.map u16).getD [] ++ u32 c.detail)
    ∧ slotSummary none = [0]
    ∧ ∀ b : Board, slotSummary (some b) = 1#8 :: (u32 b.id ++ u8 b.phase.num ++ yn b.fenced ++ yn b.completing
        ++ u16 (b.entries.filter fun e => !e.status.terminal).length)
    -- the timeouts in force, the inputs and sources in their order, the numbers of the named values, a record written
    ∧ [WatchId.chain, .gate, .head, .span, .table, .conveyor].map s.timeout =
      [s.inputs.timeouts.chain, s.inputs.timeouts.gate, s.inputs.timeouts.head, s.inputs.timeouts.span,
        s.inputs.timeouts.table, s.inputs.timeouts.conveyor]
    ∧ allSlow = (List.finRange 80).map SlowInput.tape ++ [.airOk, .guardClosed]
    ∧ allSources = [.estop, .guardOpen, .airLow, .chainJam, .gateJam, .headJam, .spanTimeout, .tableTimeout,
        .followingError, .conveyorJam, .boardLate, .leadMiss, .clinchFail, .misfeed, .stationSuspect, .starved, .tapeOut,
        .reelLow, .verifyReject, .strayPart, .stepMissed]
    ∧ allSources.map Source.num = (List.range 21).map (· + 1)
    ∧ [LineState.unready, .ready, .running, .holding, .held, .stopped, .recovering].map LineState.num = List.range 7
    ∧ [WatchState.idle, .running, .expired].map WatchState.num = List.range 3
    ∧ [WatchId.chain, .gate, .head, .span, .table, .conveyor].map WatchId.num = List.range 6
    ∧ [Debounced.made, .opened, .unknown].map Debounced.num = List.range 3
    ∧ [ResetCause.powerOn, .resetPin, .resetCommand].map ResetCause.num = List.range 3
    ∧ (Store.empty.num = 0 ∧ (∀ h l, (Store.receiving h l).num = 1) ∧ ∀ h l r n, (Store.loaded h l r n).num = 2)
    ∧ (∀ w v, (∀ x, (s.setWatch w v).watch x = if x = w then v else s.watch x)
      ∧ s.setWatch w v = { s with inputs := { s.inputs with
        chain := (s.setWatch w v).watch .chain, gate := (s.setWatch w v).watch .gate, head := (s.setWatch w v).watch .head
        span := (s.setWatch w v).watch .span, table := (s.setWatch w v).watch .table
        conveyor := (s.setWatch w v).watch .conveyor } })
    ∧ (∀ i r, (∀ j, (s.setSlow i r).slow j = if j = i then r else s.slow j)
      ∧ s.setSlow i r = { s with inputs := { s.inputs with
        tapes := (s.setSlow i r).inputs.tapes, airOk := (s.setSlow i r).inputs.airOk
        guardClosed := (s.setSlow i r).inputs.guardClosed } })
    ∧ ∀ src r, s.setSource src r = { s with alarms := { s.alarms with sources := (s.setSource src r).alarms.sources } }
      ∧ ∀ o, (s.setSource src r).source o = if o = src then r else s.source o

/-! ## The sequence chain -/

/-- The index-hold set, empty after reset, work present and the condition of an index request (R9, R10, R11). -/
def Obligations.HoldSetAndWork : Prop :=
  (State.reset.holdFire = false ∧ State.reset.holdVerify = false ∧ State.reset.holdGate = false
    ∧ State.reset.holdTransfer = false) ∧
  ∀ s : State,
    (s.holdFire = true ↔
      ((s.line = .running ∨ s.line = .holding) ∧ ∃ k : Fin 80,
        (s.pocket (s.pocketAt ⟨k.val + 1, by omega⟩)).state = .assigned
          ∧ (s.pocket (s.pocketAt ⟨k.val + 1, by omega⟩)).station = some k)
      ∨ ∃ k, (s.fireUnit k).dwell.isSome = true)
    ∧ (s.holdVerify = true ↔
        (s.line = .running ∨ s.line = .holding) ∧ (s.pocket (s.pocketAt 88)).state = .loaded
        ∨ s.verifier.flight.isSome = true)
    ∧ (s.holdGate = true ↔
        (s.line = .running ∨ s.line = .holding) ∧ ((s.pocket (s.pocketAt 90)).state = .rejected
          ∨ (s.pocket (s.pocketAt 90)).state = .orphan ∨ (s.pocket (s.pocketAt 90)).state = .unknown)
        ∨ s.chain.gateStroke.isSome = true)
    ∧ (s.holdTransfer = true ↔
        (s.line = .running ∨ s.line = .holding) ∧ (s.pocket (s.pocketAt 96)).state = .verified
        ∨ s.head.state = .pickStroke)
    ∧ (s.workPresent = true ↔
        (∃ p, (s.pocket p).state ≠ .empty) ∨ (s.candidate.isSome = true ∧ s.wait = .none))
    ∧ (s.indexDue = true ↔ s.chain.index = .idle ∧ s.line = .running ∧ s.workPresent = true ∧ s.holdFire = false
        ∧ s.holdVerify = false ∧ s.holdGate = false ∧ s.holdTransfer = false)

/-- The request and the completion of an index (R1, R11, R12): C rises by 1 modulo 128, the drive is released, a
pocket that has not been assigned there comes to entry (R87; assumption log 44), the CHAIN watch stops, the pocket at 84 is judged, the fires that the completion makes due are taken (R90) and a measurement that is
due starts (R110); whether the fires or the presence check with its withdrawal come first is free (R33; assumption log 8),
and that the measurement comes after both is the model's choice (assumption log 11). An arrival without an index in flight
is no completion. The gate stroke: its condition, its start and its completion (R17, R18). -/
def Obligations.IndexAndGate : Prop :=
  (∀ s : State,
    (s.indexDue = true → exec .indexRequest s = .next (State.judge (State.startWatch
      { s with chain := { s.chain with index := .inFlight, indexDrive := true } } .chain s.inputs.timeouts.chain)))
    ∧ (∀ seen, s.chain.index = .inFlight →
        let u := State.draw (State.stopWatch
          { s with chain := { s.chain with
            c := s.chain.c + 1, index := .idle, indexDrive := false, entryTaken := false } } .chain)
        exec (.indexCompletion seen) s = .next (u.fireAll.checkPresence seen).startMeasurement.judge
        ∨ exec (.indexCompletion seen) s = .next (u.checkPresence seen).fireAll.startMeasurement.judge)
    ∧ (∀ seen, s.chain.index ≠ .inFlight → exec (.indexCompletion seen) s = .next s.judge)
    ∧ (∀ p q : Fin 128, (s.positionOf p).val = (p.val + s.chain.c.val) % 128
        ∧ (s.pocketAt q = p ↔ s.positionOf p = q)))
    ∧ (∀ s : State,
    (s.gateDue = true ↔ (s.line = .running ∨ s.line = .holding) ∧ s.chain.gateStroke = none
      ∧ ((s.pocket (s.pocketAt 90)).state = .rejected ∨ (s.pocket (s.pocketAt 90)).state = .orphan
        ∨ (s.pocket (s.pocketAt 90)).state = .unknown))
    ∧ (s.gateDue = true →
        let u := State.startWatch
          { s with chain := { s.chain with gateStroke := some (s.pocketAt 90), gateOutput := true } } .gate
          s.inputs.timeouts.gate
        s.startStroke = u ∧ exec .gateStrokeStart s = .next u.judge)
    ∧ (∀ p, s.chain.gateStroke = some p → exec .gateStrokeCompletion s = .next (State.judge (State.stopWatch
        { s with chain := { s.chain with
            pockets := vset s.chain.pockets p ⟨.empty, none, none, none, none⟩
            gateStroke := none, gateOutput := false } } .gate)))
    ∧ (s.chain.gateStroke = none → exec .gateStrokeCompletion s = .next s.judge))

/-- The presence check at 84 (R15) with the notices of a misfeed (R16), whose order is free (assumption log 8); the detail
number of STRAY_PART is free (assumption log 7). -/
def Obligations.PresenceCheck : Prop :=
  ∀ (s : State) (seen : Bool),
    (∀ ref, (s.pocket (s.pocketAt 84)).state = .fired → (s.pocket (s.pocketAt 84)).entry = some ref →
      s.checkPresence true =
        (s.setPocket (s.pocketAt 84) { s.pocket (s.pocketAt 84) with state := .loaded }).modifyEntry ref
          fun e => if e.status = .fired then { e with status := .loaded } else e)
    ∧ (∀ ref k, (s.pocket (s.pocketAt 84)).state = .fired → (s.pocket (s.pocketAt 84)).entry = some ref →
        (s.pocket (s.pocketAt 84)).station = some k →
        s.checkPresence false
            = (((s.setPocket (s.pocketAt 84) ⟨.empty, none, none, none, none⟩).draw.fallBack ref true (some k)).misfeed k)
        ∨ s.checkPresence false
            = (((s.setPocket (s.pocketAt 84) ⟨.empty, none, none, none, none⟩).draw.misfeed k).fallBack ref true (some k)))
    ∧ ((s.pocket (s.pocketAt 84)).state = .empty →
        s.checkPresence true = State.draw
          ((s.setPocket (s.pocketAt 84) ⟨.orphan, none, none, none, some .stray⟩).raise .strayPart .warn
            ⟨none, some (s.pocketAt 84).val, none, none, none, s.freeDetail⟩)
        ∧ s.checkPresence false = s)
    ∧ ((s.pocket (s.pocketAt 84)).state = .orphan →
        s.checkPresence true = s
        ∧ s.checkPresence false = s.setPocket (s.pocketAt 84) ⟨.empty, none, none, none, none⟩)
    ∧ ((s.pocket (s.pocketAt 84)).state = .unknown → s.checkPresence seen = s)

/-! ## Stations and component codes -/

/-- LOAD_STATION, LOCK_STATION, UNLOCK_STATION and RESET_STATION in every station state, with the state they reply
(section 2.4; R29, R30, R31, R32). -/
def Obligations.StationCommands : Prop :=
  ∀ (tag : Byte) (k : Fin 80) (s : State), s.takesAtOnce →
    (∀ n count low, 79 < n → Answers (.loadStation tag n count low) s s.countAccepted 0x83#8 tag [0x03#8]
      ∧ Answers (.lockStation tag n) s s.countAccepted 0x84#8 tag [0x03#8]
      ∧ Answers (.unlockStation tag n) s s.countAccepted 0x85#8 tag [0x03#8]
      ∧ Answers (.resetStation tag n) s s.countAccepted 0x86#8 tag [0x03#8])
    ∧ (∀ count low, count = 0 ∨ 65535 < count ∨ 65535 < low →
        Answers (.loadStation tag k.val count low) s s.countAccepted 0x83#8 tag [0x03#8])
    ∧ (∀ count low, 1 ≤ count → count ≤ 65535 → low ≤ 65535 →
        (if (s.station k).state = .ready ∨ (s.station k).state = .locking then
          Answers (.loadStation tag k.val count low) s s.countAccepted 0x83#8 tag [0x04#8]
        else if (s.station k).tape = false then
          Answers (.loadStation tag k.val count low) s s.countAccepted 0x83#8 tag [0x0D#8]
        else
          let u := s.countAccepted.setStation k { s.station k with
            reel := count, load := count, low := low, lowArmed := decide (low ≠ 0 ∧ low < count), underrun := false
            failRun := 0 }
          if (s.station k).state = .locked then
            Answers (.loadStation tag k.val count low) s u.judge 0x83#8 tag [0x00#8, 0x04#8]
          else
            Answers (.loadStation tag k.val count low) s (u.moveStation k .ready).judge 0x83#8 tag [0x00#8, 0x01#8]))
    ∧ (match (s.station k).state with
      | .ready | .empty =>
        if (s.station k).pending = 0 then
          Answers (.lockStation tag k.val) s (s.countAccepted.moveStation k .locked).judge 0x84#8 tag [0x00#8, 0x04#8]
        else
          Answers (.lockStation tag k.val) s (s.countAccepted.moveStation k .locking).judge 0x84#8 tag [0x00#8, 0x03#8]
      | .locking => Answers (.lockStation tag k.val) s s.countAccepted 0x84#8 tag [0x00#8, 0x03#8]
      | .locked => Answers (.lockStation tag k.val) s s.countAccepted 0x84#8 tag [0x00#8, 0x04#8]
      | .unloaded | .quarantined | .fault => Answers (.lockStation tag k.val) s s.countAccepted 0x84#8 tag [0x04#8])
    ∧ (match (s.station k).state with
      | .locked | .locking =>
        Answers (.unlockStation tag k.val) s
          (s.countAccepted.moveStation k (if (s.station k).tape then .ready else .empty)).judge 0x85#8 tag
          [0x00#8, if (s.station k).tape then 0x01#8 else 0x02#8]
      | _ => Answers (.unlockStation tag k.val) s s.countAccepted 0x85#8 tag [0x04#8])
    ∧ (match (s.station k).state with
      | .quarantined | .fault =>
        Answers (.resetStation tag k.val) s
          (State.judge ((s.countAccepted.setStation k { s.station k with failRun := 0 }).moveStation k
            (if (s.station k).tape then .ready else .empty))) 0x86#8 tag
          [0x00#8, if (s.station k).tape then 0x01#8 else 0x02#8]
      | _ => Answers (.resetStation tag k.val) s s.countAccepted 0x86#8 tag [0x04#8])

/-- The group a station belongs to (R37), its class slot (R39), and SET_STATION_GROUP (R38). A non-zero enable byte is yes
(assumption log 15), and the reply for the DEFAULT group carries its class alone (assumption log 14): both are the model's
choice. -/
def Obligations.StationGroups : Prop :=
  (∀ (s : State) (n : Nat), n < 80 → (∀ g, (vget s.stations.groups g).base ≤ 127 ∧ (vget s.stations.groups g).mask ≤ 127) →
      let fits (g : Fin 4) : Prop := (vget s.stations.groups g).enabled = true
        ∧ (n ^^^ (vget s.stations.groups g).base) &&& (127 ^^^ (vget s.stations.groups g).mask) = 0
      (∀ g, s.stations.groupOf n = some g ↔ fits g ∧ ∀ h, h < g → ¬fits h)
      ∧ (s.stations.groupOf n = none ↔ ∀ g, ¬fits g)
      ∧ (∀ g, s.stations.groupOf n = some g → s.stations.classOf n = (vget s.stations.groups g).cls)
      ∧ (s.stations.groupOf n = none → s.stations.classOf n = s.stations.defaultClass))
    ∧ ((∀ g, vget State.reset.stations.groups g = ⟨false, 0, 0, .hold⟩) ∧ State.reset.stations.defaultClass = .hold
      ∧ ∀ n, n < 80 → State.reset.stations.groupOf n = none)
    ∧ (∀ (tag : Byte) (g e b m c : Nat) (s : State), s.takesAtOnce →
        (s.line = .running ∨ s.line = .holding →
          Answers (.setStationGroup tag g e b m c) s s.countAccepted 0x88#8 tag [0x04#8])
        ∧ (s.line ≠ .running → s.line ≠ .holding → 4 < g ∨ 3 < c ∨ (g < 4 ∧ (127 < b ∨ 127 < m)) →
          Answers (.setStationGroup tag g e b m c) s s.countAccepted 0x88#8 tag [0x03#8])
        ∧ (∀ (cls : AlarmClass) (h : g < 4), s.line ≠ .running → s.line ≠ .holding → c = cls.num → b ≤ 127 → m ≤ 127 →
          Answers (.setStationGroup tag g e b m c) s
            { s.countAccepted with stations := { s.stations with
              groups := vset s.stations.groups ⟨g, h⟩ ⟨decide (e ≠ 0), b, m, cls⟩ } } 0x88#8 tag
            (0x00#8 :: (yn (decide (e ≠ 0)) ++ u8 b ++ u8 m ++ u8 c)))
        ∧ (∀ cls : AlarmClass, s.line ≠ .running → s.line ≠ .holding → c = cls.num → g = 4 →
          Answers (.setStationGroup tag g e b m c) s
            { s.countAccepted with stations := { s.stations with defaultClass := cls } } 0x88#8 tag
            (0x00#8 :: u8 c)))
    ∧ (∀ (s : State) (src : Source) (k : Fin 80) (detail : Nat),
        s.raiseStation src k detail = s.raise src (s.stations.classOf k.val)
          ⟨some k.val, none, none, none, (s.station k).owner, detail⟩)

/-- DEFINE_CODE and REMOVE_CODE: their refusals in order, the record that a definition gives, and what they make of the code
table and the owners (R40, R41, R42, R202). That STATION_TAKEN carries the first of several stations taken is the model's choice (assumption log 32). -/
def Obligations.CodeCommands : Prop :=
  ∀ (tag : Byte) (s : State), s.takesAtOnce →
    (∀ f : CodeFields, ((codeRecord? f).isSome = true ↔
        (1 ≤ f.number ∧ f.number ≤ 9999) ∧ (1 ≤ f.length ∧ f.length ≤ 4)
          ∧ (∀ n ∈ [f.st0, f.st1, f.st2, f.st3].take f.length, n ≤ 79)
          ∧ ([f.st0, f.st1, f.st2, f.st3].take f.length).Nodup ∧ (50 ≤ f.span ∧ f.span ≤ 260) ∧ f.clinch ≤ 2
          ∧ f.remake ≤ 3 ∧ f.kind ≤ 4 ∧ (1 ≤ f.m ∧ f.m ≤ 9999) ∧ (-12 ≤ f.e ∧ f.e ≤ 7) ∧ f.tl ≤ 500 ∧ f.th ≤ 500))
    ∧ (∀ f c, codeRecord? f = some c → c.number = f.number
        ∧ c.stations.map Fin.val = [f.st0, f.st1, f.st2, f.st3].take f.length ∧ c.span = f.span
        ∧ [ClinchMode.inward, .outward, .none][f.clinch]? = some c.clinch ∧ c.remake = f.remake
        ∧ [VerifyKind.none, .res, .cap, .diode, .link][f.kind]? = some c.spec.kind
        ∧ c.spec.m = f.m ∧ c.spec.e = f.e ∧ c.spec.tl = f.tl ∧ c.spec.th = f.th)
    ∧ (∀ n, s.references n = true ↔ ∃ h steps inserts barriers, s.programs.store = .loaded h steps inserts barriers
        ∧ ∃ r ∈ steps, r.kind = 1 ∧ r.code = n)
    ∧ (s.boardPresent = true ↔ s.boards.active ≠ none ∨ s.boards.next ≠ none)
    ∧ (∀ f, codeRecord? f = none → Answers (.defineCode tag f) s s.countAccepted 0x89#8 tag [0x03#8])
    ∧ (∀ f c, codeRecord? f = some c →
        (if (s.code? c.number).isSome = true ∧ s.references c.number = true ∧ s.boardPresent = true then
          Answers (.defineCode tag f) s s.countAccepted 0x89#8 tag [0x07#8]
        else
          match c.stations.find? fun k => (s.station k).owner.any fun o => o ≠ c.number with
          | some k => Answers (.defineCode tag f) s s.countAccepted 0x89#8 tag [0x0E#8, BitVec.ofNat 8 k.val]
          | none => ∃ u,
            (∀ k, u.station k = { s.station k with owner :=
                (if k ∈ c.stations then some c.number
                else if (s.station k).owner = some c.number then none else (s.station k).owner) })
            ∧ (∀ n, n ≠ c.number → u.code? n = s.code? n)
            ∧ match c.stations.findIdx? fun k => (s.station k).state = .ready with
              | some i =>
                u.code? c.number = some { c with active := i, starved := false }
                  ∧ Answers (.defineCode tag f) s u 0x89#8 tag
                    (0x00#8 :: (opt (fun k : Fin 80 => u8 k.val) c.stations[i]? ++ [0#8]))
              | none =>
                u.code? c.number = some { c with active := 0, starved := true }
                  ∧ Answers (.defineCode tag f) s u 0x89#8 tag [0x00#8, 0x00#8, 0x01#8]))
    ∧ (∀ n, n < 1 ∨ 9999 < n → Answers (.removeCode tag n) s s.countAccepted 0x8A#8 tag [0x03#8])
    ∧ (∀ n, 1 ≤ n → n ≤ 9999 → s.code? n = none → Answers (.removeCode tag n) s s.countAccepted 0x8A#8 tag [0x06#8])
    ∧ (∀ n c, 1 ≤ n → n ≤ 9999 → s.code? n = some c → s.references n = true →
        Answers (.removeCode tag n) s s.countAccepted 0x8A#8 tag [0x07#8])
    ∧ (∀ n c, 1 ≤ n → n ≤ 9999 → s.code? n = some c → s.references n = false →
        ∃ u, Answers (.removeCode tag n) s u 0x8A#8 tag [0x00#8] ∧ u.code? n = none
          ∧ (∀ m, m ≠ n → u.code? m = s.code? m)
          ∧ (∀ k, u.station k = { s.station k with owner :=
              (if (s.station k).owner = some n then none else (s.station k).owner) }))

/-- The move of a code to another station: the search from the place after the active index when the active station leaves
READY (R44), and the takeover of a starved code by a station that becomes READY (R45), in a code table that holds one record
for each number, as every step keeps it. A station taken out of service: the withdrawal of its assignments, the quarantine,
the misfeed notice and the notices of the verifier (R5, R33, R34, R35, R114). The withdrawal takes the pockets in order of
decreasing path position, with the uncounted fall-back of each entry, and leaves every other pocket and station as it was
(R33). That the CHANGEOVER comes with the change of state, before the withdrawals and the raise, is the model's choice
(assumption log 38). -/
def Obligations.StationMoves : Prop :=
  (∀ (s : State) (k : Fin 80) (n : Nat) (c : CodeRecord),
    (s.stations.codes.Pairwise fun c d => c.number < d.number) → (s.station k).owner = some n → s.code? n = some c →
    let ready (i : Nat) : Prop := ∃ st, c.stations[i]? = some st ∧ (s.station st).state = .ready
    let place (j : Nat) : Nat := (c.active + 1 + j) % c.stations.length
    (c.starved = false → c.stations[c.active]? = some k →
      (∀ j, j < c.stations.length → ready (place j) → (∀ j', j' < j → ¬ready (place j')) →
        s.changeover k =
          State.emit { s with stations := { s.stations with
            codes := s.stations.codes.map fun d => if d.number = n then { d with active := place j } else d } }
          0x43#8 (u16 n ++ 1#8 :: u8 k.val ++ opt (fun st : Fin 80 => u8 st.val) c.stations[place j]?))
      ∧ ((∀ i, i < c.stations.length → ¬ready i) →
        s.changeover k =
          State.emit { s with stations := { s.stations with
            codes := s.stations.codes.map fun d => if d.number = n then { d with starved := true } else d } }
          0x43#8 (u16 n ++ 1#8 :: u8 k.val ++ [0#8])))
    ∧ (c.starved = true ∨ c.stations[c.active]? ≠ some k → s.changeover k = s)
    ∧ (c.starved = true → s.takeover k =
        State.emit { s with stations := { s.stations with
          codes := s.stations.codes.map fun d =>
            if d.number = n then { d with active := c.stations.idxOf k, starved := false } else d } }
        0x43#8 (u16 n ++ 0#8 :: 1#8 :: u8 k.val))
    ∧ (c.starved = false → s.takeover k = s))
    ∧ (∀ (s : State) (k : Fin 80), (s.station k).owner = none → s.changeover k = s ∧ s.takeover k = s)
    ∧ (∀ (s : State) (k : Fin 80) (new : StationState),
      let u := s.setStation k { s.station k with state := new }
      ((s.station k).state = .ready → new ≠ .ready → s.moveStation k new = u.changeover k)
      ∧ ((s.station k).state ≠ .ready → new = .ready → s.moveStation k new = u.takeover k)
      ∧ ((s.station k).state = .ready → new = .ready → s.moveStation k new = u)
      ∧ ((s.station k).state ≠ .ready → new ≠ .ready → s.moveStation k new = u))
    ∧ (∀ (s : State) (k : Fin 80),
    let r := s.station k
    s.lowerPending k = s.setStation k { r with
        pending := r.pending - 1
        state := if r.state = .locking ∧ r.pending ≤ 1 then .locked else r.state }
    ∧
    (∀ p, (∀ st, (s.pocket p).state = .assigned → (s.pocket p).station = some st →
        s.withdraw p = (s.setPocket p ⟨.empty, none, none, none, none⟩).lowerPending st)
      ∧ ((s.pocket p).state ≠ .assigned → s.withdraw p = s))
    -- the withdrawal of a station: its pocket with the greatest path position first, then the rest
    ∧ (let named (p : Fin 128) : Prop := (s.pocket p).state = .assigned ∧ (s.pocket p).station = some k
      ((∀ p, ¬named p) → s.withdrawStation k = s)
      ∧ (∀ p, named p → (∀ q, named q → (s.positionOf q).val ≤ (s.positionOf p).val) →
        (∀ ref, (s.pocket p).entry = some ref →
          s.withdrawStation k = ((s.withdraw p).fallBack ref false (some k)).withdrawStation k)
        ∧ ((s.pocket p).entry = none → s.withdrawStation k = (s.withdraw p).withdrawStation k))
      ∧ (∀ p, named p → (s.withdrawStation k).pocket p = ⟨.empty, none, none, none, none⟩)
      ∧ (∀ p, ¬named p → (s.withdrawStation k).pocket p = s.pocket p)
      ∧ ((s.withdrawStation k).station k).pending = (s.station k).pending - s.assignedTo k
      ∧ (∀ j, j ≠ k → (s.withdrawStation k).station j = s.station j))
    ∧ (s.quarantine k =
        if (s.station k).state = .ready ∨ (s.station k).state = .empty ∨ (s.station k).state = .locking
            ∨ (s.station k).state = .locked then
          let u := (s.moveStation k .quarantined).withdrawStation k
          u.raiseStation .stationSuspect k (u.station k).failRun
        else s.raiseStation .stationSuspect k (s.station k).failRun)
    ∧ (s.misfeed k =
        if (s.station k).state = .ready ∨ (s.station k).state = .locking ∨ (s.station k).state = .locked then
          let u := (s.moveStation k .fault).withdrawStation k
          u.raiseStation .misfeed k (u.station k).reel
        else if (s.station k).state = .quarantined ∨ (s.station k).state = .fault then
          s.raiseStation .misfeed k (s.station k).reel
        else s)
    ∧ s.passNotice k = s.setStation k { s.station k with failRun := 0 }
    ∧ (s.failNotice k =
        let u := s.setStation k { s.station k with failRun := min 15 ((s.station k).failRun + 1) }
        if (s.station k).failRun < 15 ∧ (s.station k).failRun + 1 = s.verifier.threshold then u.quarantine k else u))

/-! ## Programs and targets -/

/-- PROGRAM_BEGIN, PROGRAM_STEPS and PROGRAM_CLEAR: their refusals in order, and what they make of the store (R47, R48, R59,
R62, R199). That a refused PROGRAM_STEPS names the first of several offending records is the model's choice (assumption log
32). -/
def Obligations.ProgramLoading : Prop :=
  ∀ (tag : Byte) (s : State), s.takesAtOnce →
    (∀ p n m o l, (
      if l.length ≠ m ∨ 16 < l.length then Answers (.programBegin tag p n m o l) s s.countAccepted 0x8C#8 tag [0x02#8]
      else if ¬(1 ≤ n ∧ n ≤ 1024 ∧ 1 ≤ m ∧ m ≤ 16 ∧ o ≤ 1 ∧ ∀ q ∈ l, q.1 ≤ 60000 ∧ q.2 ≤ 60000) then
        Answers (.programBegin tag p n m o l) s s.countAccepted 0x8C#8 tag [0x03#8]
      else if s.line = .running ∨ s.line = .holding then
        Answers (.programBegin tag p n m o l) s s.countAccepted 0x8C#8 tag [0x04#8]
      else if s.boards.active.isSome = true ∨ s.boards.next.isSome = true then
        Answers (.programBegin tag p n m o l) s s.countAccepted 0x8C#8 tag [0x07#8]
      else
        Answers (.programBegin tag p n m o l) s
          (State.judge (State.noticeProgram { s.countAccepted with programs :=
            ⟨.receiving ⟨p, n, m, if o = 0 then .imageMajor else .stepMajor, l⟩ [], .none⟩ } false)) 0x8C#8 tag
          [0x00#8]))
    ∧ (∀ first records, records = [] ∨ 24 < records.length →
        Answers (.programSteps tag first records) s s.countAccepted 0x8D#8 tag [0x02#8])
    ∧ (∀ first records, records ≠ [] → records.length ≤ 24 → (
        match s.programs.store with
        | .empty => Answers (.programSteps tag first records) s s.countAccepted 0x8D#8 tag [0x04#8, 0x00#8, 0x00#8]
        | .loaded _ l _ _ =>
          Answers (.programSteps tag first records) s s.countAccepted 0x8D#8 tag (0x04#8 :: u16 l.length)
        | .receiving h l =>
          if first ≠ l.length then
            Answers (.programSteps tag first records) s s.countAccepted 0x8D#8 tag (0x09#8 :: u16 l.length)
          else if h.steps < first + records.length then
            Answers (.programSteps tag first records) s s.countAccepted 0x8D#8 tag (0x08#8 :: u16 l.length)
          else
            match records.findIdx? fun r => decide (r.kind = 1 ∧ (60000 < r.x ∨ 60000 < r.y ∨ 3 < r.byte1)) with
            | some i =>
              Answers (.programSteps tag first records) s s.countAccepted 0x8D#8 tag
                (0x03#8 :: (u16 l.length ++ u16 (first + i)))
            | none =>
              Answers (.programSteps tag first records) s
                { s.countAccepted with programs := { s.programs with store := .receiving h (l ++ records) } } 0x8D#8 tag
                (0x00#8 :: u16 (l.length + records.length))))
    ∧ (if s.line = .running ∨ s.line = .holding then
        Answers (.programClear tag) s s.countAccepted 0x8F#8 tag [0x04#8]
      else if s.boards.active.isSome = true ∨ s.boards.next.isSome = true then
        Answers (.programClear tag) s s.countAccepted 0x8F#8 tag [0x07#8]
      else
        Answers (.programClear tag) s
          (State.judge (State.noticeProgram { s.countAccepted with programs := { s.programs with store := .empty } }
            false)) 0x8F#8 tag [0x00#8])

/-- PROGRAM_END: its passes in order, the outcome of a failure, and what a pass makes of the store (R50, R51, R55, R56, R57);
and the resolution of the insert steps: the pending set of modifiers, the attributes and the sections (R52, R53, R54). -/
def Obligations.ProgramEndAndResolution : Prop :=
  (∀ (tag : Byte) (s : State), s.takesAtOnce →
    (∀ h l, s.programs.store ≠ .receiving h l) ∧ Answers (.programEnd tag) s s.countAccepted 0x8E#8 tag [0x04#8]
    ∨ ∃ h l, s.programs.store = .receiving h l ∧
      let failed (why : ProgramFault) (step image : Option Nat) : Prop :=
        ∃ u, u.programs = ⟨.empty, .failed why step image⟩
          ∧ Answers (.programEnd tag) s u 0x8E#8 tag (0x13#8 :: (u8 why.num ++ opt u16 step ++ opt u8 image))
      let fault (i : Nat) (r : StepRecord) : Option ProgramFault :=
        if r.kind = 1 then
          if ¬(1 ≤ r.code ∧ r.code ≤ 9999 ∧ (s.code? r.code).isSome = true) then some .unknownCode
          else if r.span ≠ 0 ∧ ¬(50 ≤ r.span ∧ r.span ≤ 260) then some .spanRange
          else none
        else if r.kind = 2 then
          if ¬(1 ≤ r.byte1 ∧ r.byte1 ≤ 5) then some .undefinedStep
          else if (r.byte1 = 1 ∧ ¬(50 ≤ r.code ∧ r.code ≤ 260)) ∨ (r.byte1 = 2 ∧ 2 < r.code)
              ∨ (r.byte1 = 3 ∧ 1 < r.code) ∨ (r.byte1 = 5 ∧ 3 < r.code) then some .modifierValue
          else if ∀ p ∈ l.zipIdx, p.1.kind = 1 → p.2 < i then some .danglingModifier
          else none
        else if r.kind = 3 then none
        else some .undefinedStep
      let travel (r : StepRecord) (image : Nat) : Bool :=
        inTravel s.table.geometry (target s.table.geometry r.x r.y r.byte1 (h.offset image))
      (l.length ≠ h.steps → failed .incomplete (some l.length) none)
      ∧ (∀ (i : Nat) r why, l.length = h.steps → l[i]? = some r → fault i r = some why →
          (∀ (j : Nat) q, j < i → l[j]? = some q → fault j q = none) → failed why (some i) none)
      ∧ (l.length = h.steps → (∀ (j : Nat) q, l[j]? = some q → fault j q = none) →
          (∀ (i : Nat) r image, l[i]? = some r → r.kind = 1 → image < h.images → travel r image = false →
            (∀ j q im, l[j]? = some q → q.kind = 1 → im < h.images → j < i ∨ (j = i ∧ im < image) → travel q im = true) →
            failed .outOfTravel (some i) (some image))
          ∧ ((∀ (j : Nat) q im, l[j]? = some q → q.kind = 1 → im < h.images → travel q im = true) →
            ((∀ q ∈ l, q.kind ≠ 1) → failed .noInsert none none)
            ∧ ((∃ q ∈ l, q.kind = 1) →
              let r := resolveFrom {} 0 (indexed l)
              Answers (.programEnd tag) s
                (State.judge (State.noticeProgram { s.countAccepted with programs :=
                  ⟨.loaded h l r (l.countP fun q => q.kind = 3), .ok⟩ } true)) 0x8E#8 tag (0x00#8 :: u16 r.length)))))
    ∧ (∀ (l : List StepRecord) (i : Nat), (indexed l)[i]? = (l[i]?).map fun r => (i, r))
    ∧ ((∀ (l : List StepRecord), ((resolveFrom {} 0 (indexed l)).map fun q => (q.step, q.code, q.x, q.y, q.direction))
      = ((indexed l).filter fun p => p.2.kind = 1).map fun p => (p.1, p.2.code, p.2.x, p.2.y, p.2.byte1))
    ∧ (∀ (l : List StepRecord) q, q ∈ resolveFrom {} 0 (indexed l) →
        q.sect = (l.take q.step).countP fun r => decide (r.kind ≠ 1 ∧ r.kind ≠ 2))
    ∧ (∀ (m : Modifiers) (n i : Nat) (r : StepRecord) (l : List (Nat × StepRecord)),
        (r.kind = 1 → resolveFrom m n ((i, r) :: l) =
          { step := i, sect := n, code := r.code, x := r.x, y := r.y, direction := r.byte1
            span := if r.span ≠ 0 then some r.span else m.span
            clinch := m.clinch, drive := m.drive.getD .normal, bypass := m.bypass, remake := m.remake }
            :: resolveFrom ⟨none, none, none, false, none⟩ n l)
        ∧ (r.kind = 2 → resolveFrom m n ((i, r) :: l) = resolveFrom
            (match r.byte1 with
              | 1 => { m with span := some r.code }
              | 2 => { m with clinch := ClinchMode.ofNum r.code }
              | 3 => { m with drive := some (if r.code = 1 then .soft else .normal) }
              | 4 => { m with bypass := true }
              | _ => { m with remake := some r.code }) n l)
        ∧ (r.kind = 3 → resolveFrom m n ((i, r) :: l) = resolveFrom m (n + 1) l)))

/-- The target of a step in an image (R127), its rounding to the nearest count with halves away from zero (R128), and the
travel limits; with the ranges of a program and of the geometry the products keep to ±9.7 × 10^11. -/
def Obligations.TargetArithmetic : Prop :=
  (∀ (g : Geometry) (x y ox oy : Nat),
      let px : Int := x + ox
      let py : Int := y + oy
      let u : Int := px - g.rcx
      let v : Int := py - g.rcy
      let counts (t ppm : Int) : Int := roundCounts (t * 4 * (1000000 + ppm))
      target g x y 0 (ox, oy) = (counts (g.hx - u) g.sx, counts (g.hy - v) g.sy, 0)
      ∧ target g x y 1 (ox, oy) = (counts (g.hx + v) g.sx, counts (g.hy - u) g.sy, 25000)
      ∧ target g x y 2 (ox, oy) = (counts (g.hx + u) g.sx, counts (g.hy + v) g.sy, 50000)
      ∧ target g x y 3 (ox, oy) = (counts (g.hx - v) g.sx, counts (g.hy + u) g.sy, 75000))
    ∧ (∀ q : Int, (0 ≤ q → roundCounts q = (q + 500000) / 1000000)
        ∧ (q < 0 → roundCounts q = -((500000 - q) / 1000000))
        ∧ 2 * (roundCounts q * 1000000 - q).natAbs ≤ 1000000 ∧ roundCounts (-q) = -roundCounts q)
    ∧ (∀ (h : Header) (image : Nat), h.offset image = (h.offsets[image]?).getD (0, 0))
    ∧ (∀ (g : Geometry) (t : Int × Int × Int), inTravel g t = true ↔
        g.xmin ≤ t.1 ∧ t.1 ≤ g.xmax ∧ g.ymin ≤ t.2.1 ∧ t.2.1 ≤ g.ymax)
    ∧ (∀ (g : Geometry) (x y d ox oy : Nat), g.hx ≤ 120000 → g.hy ≤ 120000 → g.rcx ≤ 60000 → g.rcy ≤ 60000 →
        -2000 ≤ g.sx → g.sx ≤ 2000 → -2000 ≤ g.sy → g.sy ≤ 2000 → x ≤ 60000 → y ≤ 60000 → ox ≤ 60000 → oy ≤ 60000 →
        d ≤ 3 → ∃ tx ty : Int, -120000 ≤ tx ∧ tx ≤ 240000 ∧ -120000 ≤ ty ∧ ty ≤ 240000
          ∧ (tx * 4 * (1000000 + g.sx)).natAbs ≤ 970000000000 ∧ (ty * 4 * (1000000 + g.sy)).natAbs ≤ 970000000000
          ∧ (target g x y d (ox, oy)).1 = roundCounts (tx * 4 * (1000000 + g.sx))
          ∧ (target g x y d (ox, oy)).2.1 = roundCounts (ty * 4 * (1000000 + g.sy)))

/-! ## Boards and entries -/

/-- ANNOUNCE_BOARD: its refusals in order, the slot taken, and the list it builds (R64, R65, R66). -/
def Obligations.BoardAnnouncement : Prop :=
  ∀ (tag : Byte) (board product mask : Nat) (s : State), s.takesAtOnce →
    (s.programs.store.isLoaded = true ↔ ∃ h steps inserts barriers, s.programs.store = .loaded h steps inserts barriers)
    ∧ (s.programs.store.isLoaded = false →
      Answers (.announceBoard tag board product mask) s s.countAccepted 0x91#8 tag [0x0B#8])
    ∧ ∀ h steps inserts barriers, s.programs.store = .loaded h steps inserts barriers →
      let good := (List.range h.images).filter fun i => mask.testBit i
      let entry (i : Nat) (r : Resolved) : Entry :=
        { image := i, step := r.step, sect := r.sect, code := r.code
          span := r.span.getD (((s.code? r.code).map (·.span)).getD 0)
          clinch := r.clinch.getD (((s.code? r.code).map (·.clinch)).getD .none)
          drive := r.drive
          verification := if r.bypass then .bypass else ((s.code? r.code).map fun c => .check c.spec).getD .bypass
          remakeLimit := r.remake.getD (((s.code? r.code).map (·.remake)).getD 0)
          status := .pending, remakes := 0, pocket := none, cause := none, unclinched := false, hostRemake := false }
      let list := match h.order with
        | .imageMajor => good.flatMap fun i => inserts.map (entry i)
        | .stepMajor => inserts.flatMap fun r => good.map fun i => entry i r
      let b : Board := ⟨board, product, mask, list, false, .waiting, false, false⟩
      list.length = good.length * inserts.length
      ∧ (if product ≠ h.product then
          Answers (.announceBoard tag board product mask) s s.countAccepted 0x91#8 tag [0x0C#8]
        else if ∀ i, i < h.images → mask.testBit i = false then
          Answers (.announceBoard tag board product mask) s s.countAccepted 0x91#8 tag [0x03#8]
        else
          match s.boards.active, s.boards.next with
          | some _, some _ => Answers (.announceBoard tag board product mask) s s.countAccepted 0x91#8 tag [0x08#8]
          | none, some a =>
            if a.id = board then Answers (.announceBoard tag board product mask) s s.countAccepted 0x91#8 tag [0x0A#8]
            else
              Answers (.announceBoard tag board product mask) s
                (State.judge { s.countAccepted with boards := { s.boards with active := some b } }) 0x91#8 tag
                (0x00#8 :: 0x00#8 :: u16 list.length)
          | some a, none =>
            if a.id = board then Answers (.announceBoard tag board product mask) s s.countAccepted 0x91#8 tag [0x0A#8]
            else
              Answers (.announceBoard tag board product mask) s
                (State.judge { s.countAccepted with boards := { s.boards with next := some b } }) 0x91#8 tag
                (0x00#8 :: 0x01#8 :: u16 list.length)
          | none, none =>
            Answers (.announceBoard tag board product mask) s
              (State.judge { s.countAccepted with boards := { s.boards with active := some b } }) 0x91#8 tag
              (0x00#8 :: 0x00#8 :: u16 list.length))

/-- SKIP_STEP and DISPOSE_STEP by the status of the entry they name (section 4.8; R73, R74), with what a skip does to the pocket
that holds the entry, withdrawn or orphaned, and to the pending-fire count of its station (R5, R8, R73); and how a board and an entry are
found and changed, with the counts those commands read (R63, R65, R67). -/
def Obligations.Dispositions : Prop :=
  ∀ (tag : Byte) (board image step : Nat) (s : State), s.takesAtOnce →
    (15 < image ∨ 1023 < step → ∀ d,
      Answers (.skipStep tag board image step) s s.countAccepted 0x92#8 tag [0x03#8]
      ∧ Answers (.disposeStep tag board image step d) s s.countAccepted 0x93#8 tag [0x03#8])
    ∧ (image ≤ 15 → step ≤ 1023 →
        (∀ b, s.board? board = some b → ∀ e ∈ b.entries, ¬(e.image = image ∧ e.step = step)) → ∀ d,
        Answers (.skipStep tag board image step) s s.countAccepted 0x92#8 tag [0x06#8]
        ∧ Answers (.disposeStep tag board image step d) s s.countAccepted 0x93#8 tag [0x06#8])
    ∧ (∀ b i e, image ≤ 15 → step ≤ 1023 → s.board? board = some b → b.entries[i]? = some e → e.image = image →
        e.step = step → (∀ j o, j < i → b.entries[j]? = some o → ¬(o.image = image ∧ o.step = step)) →
        let ref : EntryRef := ⟨board, i⟩
        let before := u8 e.status.num
        (match e.status with
        | .inHead => Answers (.skipStep tag board image step) s s.countAccepted 0x92#8 tag [0x05#8]
        | .failedOpen | .inserted | .unclinched | .failed | .missed | .skipped =>
          Answers (.skipStep tag board image step) s s.countAccepted 0x92#8 tag [0x04#8]
        | .pending =>
          if s.isActive board = true ∨ s.activeFenced = true then
            Answers (.skipStep tag board image step) s (s.countAccepted.skipEntry ref e).judge 0x92#8 tag
              (0x00#8 :: (u16 i ++ before ++ [0x0C#8]))
          else Answers (.skipStep tag board image step) s s.countAccepted 0x92#8 tag [0x04#8]
        | .queued | .assigned | .fired | .loaded | .verified =>
          Answers (.skipStep tag board image step) s (s.countAccepted.skipEntry ref e).judge 0x92#8 tag
            (0x00#8 :: (u16 i ++ before ++ [0x0C#8])))
        ∧ (∀ d, 1 < d → Answers (.disposeStep tag board image step d) s s.countAccepted 0x93#8 tag [0x03#8])
        ∧ (∀ d, d ≤ 1 → e.status ≠ .failedOpen →
            Answers (.disposeStep tag board image step d) s s.countAccepted 0x93#8 tag [0x04#8])
        ∧ (e.status = .failedOpen →
            Answers (.disposeStep tag board image step 0) s
              (State.judge (s.countAccepted.modifyEntry ref fun o =>
                { o with status := .failed, pocket := none, hostRemake := false })) 0x93#8 tag
              (0x00#8 :: (u16 i ++ before ++ [0x0A#8]))
            ∧ (if b.fenced = true then
                Answers (.disposeStep tag board image step 1) s s.countAccepted 0x93#8 tag [0x0F#8]
              else if s.entriesInWork = 128 then
                Answers (.disposeStep tag board image step 1) s s.countAccepted 0x93#8 tag [0x08#8]
              else
                let u := s.countAccepted.modifyEntry ref fun o =>
                  { o with status := .queued, cause := none, remakes := min 3 (o.remakes + 1), hostRemake := true }
                Answers (.disposeStep tag board image step 1) s
                  (State.judge { u with boards := { u.boards with queue := u.boards.queue ++ [ref] } }) 0x93#8 tag
                  (0x00#8 :: (u16 i ++ before ++ [0x01#8])))))
    ∧ (∀ (ref : EntryRef) (e : Entry) (u : State),
        (∀ p, e.pocket = some p → e.status = .assigned → u.releasePocket e .skipped = u.withdraw p)
        ∧ (∀ p, e.pocket = some p → (e.status = .fired ∨ e.status = .loaded ∨ e.status = .verified) →
            u.releasePocket e .skipped =
              if (u.pocket p).state = .fired ∨ (u.pocket p).state = .loaded ∨ (u.pocket p).state = .verified then
                u.setPocket p ⟨.orphan, none, none, (u.pocket p).result, some .skipped⟩
              else u)
        ∧ (∀ p, e.pocket = some p → e.status.inPocket = false → u.releasePocket e .skipped = u)
        ∧ (e.pocket = none → u.releasePocket e .skipped = u)
        -- a skip leaves the pocket and the station as the release of the pocket does, and every other entry as it was
        ∧ (let v := u.releasePocket e .skipped
          v.boards = u.boards ∧ u.skipEntry ref e = { v with boards := (u.skipEntry ref e).boards })
        ∧ (∀ p k, e.pocket = some p → e.status = .assigned → (u.pocket p).state = .assigned → (u.pocket p).station = some k →
            let v := u.skipEntry ref e
            v.pocket p = ⟨.empty, none, none, none, none⟩ ∧ (∀ q, q ≠ p → v.pocket q = u.pocket q)
              ∧ v.station k = { u.station k with
                  pending := (u.station k).pending - 1
                  state := if (u.station k).state = .locking ∧ (u.station k).pending ≤ 1 then .locked
                    else (u.station k).state }
              ∧ ∀ j, j ≠ k → v.station j = u.station j)
        ∧ (∀ r, r ≠ ref → (u.skipEntry ref e).entry? r = u.entry? r)
        ∧ (∀ o, u.entry? ref = some o → (u.skipEntry ref e).entry? ref =
            some { o with status := .skipped, pocket := none, cause := none, hostRemake := false })
        ∧ (u.skipEntry ref e).boards.queue = u.boards.queue.filter fun r => decide (r ≠ ref))
    -- the board of an id, the entry of a reference, an entry changed, and what the refusals read
    ∧ (∀ id b, s.board? id = some b ↔ b.id = id
        ∧ (s.boards.active = some b ∨ (s.boards.next = some b ∧ ∀ a, s.boards.active = some a → a.id ≠ id)))
    ∧ (∀ ref e, s.entry? ref = some e ↔ ∃ b, s.board? ref.board = some b ∧ b.entries[ref.index]? = some e)
    ∧ (∀ ref e, s.entry? ref = some e → s.codeOf ref = e.code)
    ∧ (∀ ref f, let u := s.modifyEntry ref f
        u = { s with boards := { s.boards with active := u.boards.active, next := u.boards.next } }
        ∧ (∀ r, u.entry? r = if r = ref then (s.entry? r).map f else s.entry? r)
        ∧ ∀ id, (u.board? id).map (fun b => { b with entries := [] }) = (s.board? id).map fun b => { b with entries := [] })
    ∧ (∀ id, s.isActive id = true ↔ ∃ a, s.boards.active = some a ∧ a.id = id)
    ∧ (s.activeFenced = true ↔ ∃ a, s.boards.active = some a ∧ a.fenced = true)
    ∧ s.entriesInWork = s.boards.queue.length + ((List.finRange 128).countP fun p => (s.pocket p).entry.isSome)
        + s.head.held.toList.length

/-- ABANDON_BOARD: its refusals, and what becomes of the board, its pockets, the pending-fire counts, the return queue and the
head (R75); and the completion of the ACTIVE board with the finishing of a board and its report (R76, R77, R78, R203). -/
def Obligations.BoardAbandoning : Prop :=
  (∀ (tag : Byte) (board : Nat) (s : State), s.takesAtOnce →
    (s.line = .unready ∨ s.line = .running ∨ s.line = .holding ∨ s.line = .recovering →
      Answers (.abandonBoard tag board) s s.countAccepted 0x94#8 tag [0x04#8])
    ∧ (s.line = .held ∨ s.line = .ready ∨ s.line = .stopped → s.board? board = none →
      Answers (.abandonBoard tag board) s s.countAccepted 0x94#8 tag [0x06#8])
    ∧ (∀ b, s.line = .held ∨ s.line = .ready ∨ s.line = .stopped → s.board? board = some b →
      let u := s.countAccepted.abandonEntries b
      -- an ACTIVE board completes by the judgement of R76, and a NEXT board is removed at once with its report
      (s.isActive board = true →
        Answers (.abandonBoard tag board) s u.judge 0x94#8 tag
          (0x00#8 :: u16 (b.entries.countP fun e => !e.status.terminal)))
      ∧ (s.isActive board = false → ∃ n, u.boards.next = some n
        ∧ Answers (.abandonBoard tag board) s
            (State.judge { u.emit 0x46#8 n.report with boards := { u.boards with next := none } }) 0x94#8 tag
            (0x00#8 :: u16 (b.entries.countP fun e => !e.status.terminal)))
      ∧ u.board? board = some { b with
          abandoned := true
          entries := b.entries.map fun e =>
            if e.status.terminal = true then e
            else { e with status := .missed, pocket := none, cause := some .abandoned, hostRemake := false } }
      ∧ u.boards.queue = s.boards.queue.filter (fun r => decide (r.board ≠ board))
      ∧ (∀ a, s.boards.active = some a → a.id ≠ board → u.boards.active = some a)
      ∧ (∀ n, s.boards.next = some n → n.id ≠ board → u.boards.next = some n)
      -- the pockets that the entries name: withdrawn, orphaned, or left as they are
      ∧ (let assigned (p : Fin 128) : Bool := b.entries.any fun e => e.pocket = some p && e.status = .assigned
        let onTheWay (p : Fin 128) : Bool := b.entries.any fun e =>
          e.pocket = some p && (e.status = .fired || e.status = .loaded || e.status = .verified)
        (∀ p, u.pocket p =
          if (s.pocket p).state = .assigned ∧ assigned p = true then ⟨.empty, none, none, none, none⟩
          else if ((s.pocket p).state = .fired ∨ (s.pocket p).state = .loaded ∨ (s.pocket p).state = .verified)
              ∧ onTheWay p = true then
            ⟨.orphan, none, none, (s.pocket p).result, some .abandoned⟩
          else s.pocket p)
        -- each station's count falls by the pockets withdrawn that name it, and LOCKING ends at 0
        ∧ ∀ k,
          let n := (List.finRange 128).countP fun p =>
            (s.pocket p).state = .assigned && (s.pocket p).station = some k && assigned p
          u.station k = { s.station k with
            pending := (s.station k).pending - n
            state := if n ≠ 0 ∧ (s.station k).state = .locking ∧ (s.station k).pending ≤ n then .locked
              else (s.station k).state })
      -- the part in the head
      ∧ (s.head.held.any (fun h => h.ref.board = board) = true →
          u.head = { s.head with held := none, unowned := true })
      ∧ (s.head.held.any (fun h => h.ref.board = board) = false → u.head = s.head)
      ∧ u.chain = { s.chain with pockets := u.chain.pockets }
      ∧ u.stations = { s.stations with recs := u.stations.recs }
      ∧ u.programs = s.programs ∧ u.starved = s.starved ∧ u.verifier = s.verifier ∧ u.table = s.table
      ∧ u.conveyor = s.conveyor ∧ u.inputs = s.inputs ∧ u.alarms = s.alarms ∧ u.pins = s.pins ∧ u.clock = s.clock
      ∧ u.link = s.countAccepted.link ∧ u.drawn = s.drawn ∧ u.pending = s.pending))
  ∧ (∀ st : EntryStatus, st.terminal = true ↔
      st = .inserted ∨ st = .unclinched ∨ st = .failed ∨ st = .missed ∨ st = .skipped)
  -- the completion of the ACTIVE board, as every event judges it
  ∧ (∀ s : State,
    (s.boards.active = none → completeActive 2 s = s)
    ∧ (∀ b, s.boards.active = some b → (∃ e ∈ b.entries, e.status.terminal = false) → completeActive 2 s = s)
    ∧ (∀ b, s.boards.active = some b → (∀ e ∈ b.entries, e.status.terminal = true) →
      match b.phase with
      | .loading | .unloading =>
        completeActive 2 s = { s with boards := { s.boards with active := some { b with completing := true } } }
      | .clamped =>
        completeActive 2 s = { s with
          boards := { s.boards with active := some { b with completing := true, phase := .unloading } }
          conveyor := { s.conveyor with unloadRequest := true } }
      | .waiting =>
        let u := s.emit 0x46#8 b.report
        match s.boards.next with
        | none => completeActive 2 s = { u with boards := { s.boards with active := none, next := none } }
        | some n =>
          if ∃ e ∈ n.entries, e.status.terminal = false then
            completeActive 2 s = { u with
              boards := { s.boards with active := some { n with fenced := false, phase := .waiting }, next := none } }
          else
            completeActive 2 s = { u.emit 0x46#8 n.report with
              boards := { s.boards with active := none, next := none } }))
  ∧ ∀ b : Board,
    let entries (st : EntryStatus) : List Byte := u16 (b.entries.countP fun e => e.status = st)
    let listed := b.entries.filter fun e => e.status ≠ .inserted
    let status (e : Entry) : Nat := match e.status with | .failed => 1 | .missed => 2 | .skipped => 3 | _ => 0
    let cause (e : Entry) : Nat :=
      match e.cause with
      | none => 0 | some .fenced => 1 | some .limit => 2 | some .abandoned => 3 | some .leadMiss => 4 | some .halted => 5
      | some .lost => 6
    b.report = u32 b.id
      ++ [if b.abandoned = true then 2#8 else if ∀ e ∈ b.entries, e.status = .inserted then 0#8 else 1#8]
      ++ entries .inserted ++ entries .unclinched ++ entries .failed ++ entries .missed ++ entries .skipped
      ++ u16 (b.entries.countP fun e => e.unclinched) ++ [if 64 < listed.length then 1#8 else 0#8]
      ++ u8 (min 64 listed.length)
      ++ (listed.take 64).flatMap fun e =>
        u16 (e.step + 1024 * e.image) ++ u8 (status e + 4 * cause e + if e.unclinched then 32 else 0)

/-- The fall-back rule for an entry in ASSIGNED, FIRED or LOADED (R69). -/
def Obligations.FallBackRule : Prop :=
  ∀ (s : State) (ref : EntryRef) (counts : Bool) (station : Option (Fin 80)) (b : Board) (e : Entry),
    s.board? ref.board = some b → b.entries[ref.index]? = some e →
    e.status = .assigned ∨ e.status = .fired ∨ e.status = .loaded →
    s.fallBack ref counts station =
      (if b.fenced = true then
        State.raise
          (s.modifyEntry ref fun o => { o with status := .missed, pocket := none, cause := some .fenced, hostRemake := false })
          .stepMissed .warn ⟨station.map Fin.val, none, some ref.board, some ref.index, some e.code, 1⟩
      else if counts = true ∧ e.remakeLimit ≤ e.remakes then
        State.raise
          (s.modifyEntry ref fun o => { o with status := .missed, pocket := none, cause := some .limit, hostRemake := false })
          .stepMissed .warn ⟨station.map Fin.val, none, some ref.board, some ref.index, some e.code, 2⟩
      else
        let u := s.modifyEntry ref fun o =>
          { o with status := .queued, pocket := none, remakes := if counts then o.remakes + 1 else o.remakes }
        { u with boards := { u.boards with queue := u.boards.queue ++ [ref] } })

/-! ## Dispensing -/

/-- The candidate, its wait and assignment. The candidate and its source (R81); the barrier wait, judged before the starved
wait (R83, R84); the STARVED raise and the starved-wait record (R84); and the assignment (R4, R87, R88): what the request
names, what it changes when CHT takes it, and that it changes nothing when the pocket named is not EMPTY at entry,
assignment is not open, or the pocket has been assigned already while it stands at entry: it is assigned there at most once,
and withdrawn it travels on EMPTY (R87, R95). That State holds a field for this is the model's (assumption log 44). -/
def Obligations.AssignmentEvent : Prop :=
  -- the candidate: the queue's head, the ACTIVE board's first PENDING entry, the NEXT board's, or none
  (∀ s : State,
    (∀ ref rest, s.boards.queue = ref :: rest → s.candidate = some (ref, .queue))
    ∧ (∀ a i e, s.boards.queue = [] → s.boards.active = some a → a.entries[i]? = some e → e.status = .pending →
        (∀ j o, j < i → a.entries[j]? = some o → o.status ≠ .pending) →
        s.candidate = some (⟨a.id, i⟩, .activeList))
    ∧ (∀ a n i e, s.boards.queue = [] → s.boards.active = some a → (∀ o ∈ a.entries, o.status ≠ .pending) →
        s.boards.next = some n → n.entries[i]? = some e → e.status = .pending →
        (∀ j o, j < i → n.entries[j]? = some o → o.status ≠ .pending) →
        s.candidate = some (⟨n.id, i⟩, .nextList))
    ∧ (s.boards.queue = [] → (∀ a, s.boards.active = some a → ∀ o ∈ a.entries, o.status ≠ .pending) →
        s.boards.active = none ∨ (∀ n, s.boards.next = some n → ∀ o ∈ n.entries, o.status ≠ .pending) →
        s.candidate = none))
  -- the wait of an entry as the candidate, and what is judged of the starved wait
  ∧ (∀ (s : State) (ref : EntryRef) (b : Board) (e : Entry), s.board? ref.board = some b → b.entries[ref.index]? = some e →
    (s.waitOf ref = .barrier ↔ e.hostRemake = false ∧ ∃ o ∈ b.entries, o.image = e.image ∧ o.sect < e.sect
      ∧ o.hostRemake = false
      ∧ (o.status = .pending ∨ o.status = .queued ∨ o.status = .assigned ∨ o.status = .fired ∨ o.status = .loaded))
    ∧ (s.waitOf ref = .starved ↔ s.waitOf ref ≠ .barrier
      ∧ ∀ c, s.code? e.code = some c → c.starved = true ∨ c.stations[c.active]? = none))
  ∧ (∀ s : State,
    (s.candidate = none → s.wait = .none)
    ∧ (∀ ref src, s.candidate = some (ref, src) → s.wait = s.waitOf ref)
    ∧ (s.wait ≠ .starved → s.judgeStarved = { s with starved := none })
    ∧ (∀ ref src, s.candidate = some (ref, src) → s.wait = .starved →
      if s.starved.map (·.entry) = some ref then s.judgeStarved = s
      else if s.line = .running then
        s.judgeStarved = State.raise { s with starved := some ⟨ref, s.codeOf ref⟩ } .starved s.alarms.slots.supply
          ⟨none, none, some ref.board, some ref.index, some (s.codeOf ref),
            match src with | .queue => 0 | .activeList => 1 | .nextList => 2⟩
      else s.judgeStarved = { s with starved := none }))
  ∧ ∀ (s : State) (p : Fin 128),
    (s.assignmentOpen = true ↔ s.line = .running ∧ s.candidate.isSome = true ∧ s.wait = .none)
    ∧ (s.assignmentOpen = false ∨ s.positionOf p ≠ 0 ∨ (s.pocket p).state ≠ .empty ∨ s.chain.entryTaken = true →
        exec (.assignment p) s = .next s.judge)
    ∧ (∀ ref src k, s.assignmentOpen = true → s.positionOf p = 0 → (s.pocket p).state = .empty →
        s.chain.entryTaken = false → s.candidate = some (ref, src) → s.activeStation (s.codeOf ref) = some k →
        let u := (s.setPocket p ⟨.assigned, some ref, some k, none, none⟩).modifyEntry ref
          fun e => { e with status := .assigned, pocket := some p }
        let v := u.setStation k { u.station k with pending := (u.station k).pending + 1 }
        let w : State := { v with
          chain := { v.chain with entryTaken := true }
          boards := { v.boards with
            active := if s.isActive ref.board then v.boards.active
              else v.boards.active.map fun b => { b with fenced := true }
            queue := if src = .queue then s.boards.queue.tail else s.boards.queue }
          starved := if s.starved.map (·.entry) = some ref then none else s.starved }
        exec (.assignment p) s = .next w.judge)

/-- A fire and the end of its dwell (R6, R26, R27, R90, R92): the pocket and the entry become FIRED, the station counts the
fire, the output is energised with the dwell in force, and REEL_LOW is raised once at the low threshold. The fires that one
event makes due are taken one after another until none is due (R90, R91, R94), in the order of the station numbers (the
model's choice, assumption log 37); a station whose fire is not due keeps its record and its dwell. -/
def Obligations.FireEvents : Prop :=
  ∀ (s : State) (k : Fin 80),
    (stationPosition k).val = k.val + 1
    ∧ (s.fireDue k = true ↔ (s.line = .running ∨ s.line = .holding)
      ∧ (s.pocket (s.pocketAt (stationPosition k))).state = .assigned
      ∧ (s.pocket (s.pocketAt (stationPosition k))).station = some k)
    ∧ (∀ ref, s.fireDue k = true → (s.pocket (s.pocketAt (stationPosition k))).entry = some ref →
      let p := s.pocketAt (stationPosition k)
      let r := s.station k
      let low : Bool := 0 < r.reel ∧ r.reel - 1 = r.low ∧ r.low ≠ 0 ∧ r.lowArmed = true
      let u := (s.setPocket p { s.pocket p with state := .fired }).modifyEntry ref
        fun e => if e.status = .assigned then { e with status := .fired } else e
      let v := (u.setStation k { r with
          pending := r.pending - 1, reel := r.reel - 1, underrun := r.underrun || decide (r.reel = 0)
          lowArmed := r.lowArmed && !low
          state := if r.state = .locking ∧ r.pending - 1 = 0 then .locked else r.state }).setFireUnit k
        ⟨true, some s.stations.dwellLength⟩
      exec (.fire k) s = .next (State.judge
        (if low then v.raise .reelLow .warn ⟨some k.val, none, none, none, r.owner, r.low⟩ else v)))
    ∧ ((s.fireUnit k).dwell = some 0 → exec (.fireDwellEnd k) s = .next (s.setFireUnit k ⟨false, none⟩).judge)
    ∧ (s.fireDue k = true → ∃ t, exec (.fire k) s = .next t ∧ t.fireUnit k = ⟨true, some s.stations.dwellLength⟩)
    ∧ exec (.fire k) s = .next (s.fire k).judge ∧ (s.fireDue k = false → s.fire k = s)
    ∧ s.fireAll.fireDue k = false
    ∧ ((∀ j, j < k → s.fireDue j = false) → s.fireAll = (s.fire k).fireAll)
    ∧ ((∀ j, j ≠ k → s.fireDue j = false) → s.fireAll = s.fire k)
    ∧ (s.fireDue k = false → s.fireAll.station k = s.station k ∧ s.fireAll.fireUnit k = s.fireUnit k)

/-- SET_FIRE_DWELL, SET_FAIL_THRESHOLD and SET_TIMING: accepted in every line state, with the values they refuse or bring into
range, and the values after reset (R93, R117, R175). -/
def Obligations.HostSettings : Prop :=
  (∀ (tag : Byte) (n : Nat) (s : State), s.takesAtOnce →
      (if 4 ≤ n ∧ n ≤ 30 then
        Answers (.setFireDwell tag n) s { s.countAccepted with stations := { s.stations with dwellLength := n } } 0x96#8
          tag (0x00#8 :: u8 n)
      else Answers (.setFireDwell tag n) s s.countAccepted 0x96#8 tag [0x03#8])
      ∧ (if 1 ≤ n ∧ n ≤ 15 then
        Answers (.setFailThreshold tag n) s { s.countAccepted with verifier := { s.verifier with threshold := n } }
          0x98#8 tag (0x00#8 :: u8 n)
      else Answers (.setFailThreshold tag n) s s.countAccepted 0x98#8 tag [0x03#8]))
    ∧ (∀ (tag : Byte) (t : Timeouts) (s : State), s.takesAtOnce →
        let v : Timeouts :=
          ⟨max 50 (min 2000 t.chain), max 50 (min 1000 t.gate), max 100 (min 3000 t.head), max 100 (min 3000 t.span),
            max 200 (min 10000 t.table), max 500 (min 30000 t.conveyor), max 1000 (min 60000 t.board)⟩
        Answers (.setTiming tag t) s { s.countAccepted with inputs := { s.inputs with timeouts := v } } 0xA1#8 tag
          (0x00#8 :: (u16 v.chain ++ u16 v.gate ++ u16 v.head ++ u16 v.span ++ u16 v.table ++ u16 v.conveyor
            ++ u16 v.board)))
    ∧ (∀ (s : State) (k : Fin 80), s.fireDue k = true →
        ∃ t, exec (.fire k) s = .next t ∧ (t.fireUnit k).dwell = some s.stations.dwellLength)
    ∧ (∀ (s : State) (k : Fin 80), (s.station k).failRun + 1 = s.verifier.threshold → (s.station k).failRun < 15 →
        s.failNotice k
          = (s.setStation k { s.station k with failRun := (s.station k).failRun + 1 }).quarantine k)
    ∧ (∀ (s : State) (k : Fin 80), (s.station k).failRun + 1 ≠ s.verifier.threshold →
        s.failNotice k = s.setStation k { s.station k with failRun := min 15 ((s.station k).failRun + 1) })
    ∧ State.reset.stations.dwellLength = 12 ∧ State.reset.verifier.threshold = 3
    ∧ State.reset.inputs.timeouts = ⟨250, 150, 400, 800, 1500, 5000, 20000⟩

/-! ## Component verification -/

/-- Normalisation, the comparison of readings and the durations (R103 to R108): a mantissa is brought to four digits with its
value kept, and a reading is judged against its band by whole-number products. -/
def Obligations.VerifyArithmetic : Prop :=
  (∀ v : VerifySpec, 1 ≤ v.m → v.m ≤ 9999 →
      1000 ≤ v.mant ∧ v.mant ≤ 9999 ∧ ∃ n : Nat, n ≤ 3 ∧ v.mant = v.m * 10 ^ n ∧ v.expo = v.e - n)
    ∧ (∀ count mant tl th : Nat, judgeBand count mant tl th =
        if 19999 < count then .overRange
        else if count * 1000 < mant * (1000 - tl) then .low
        else if count * 1000 ≤ mant * (1000 + th) then .pass else .high)
    ∧ (∀ (m : Measurement) (f r : Nat), (m.kind = .res ∨ m.kind = .cap → m.judge f r = judgeBand f m.mant m.tl m.th)
        ∧ (m.kind = .link → m.judge f r = if 19999 < f then .overRange else if f ≤ 5000 then .pass else .high)
        ∧ (m.kind = .diode → m.judge f r =
            if 19999 < f ∧ r ≤ 19999 ∧ r * 1000 ≤ m.mant * (1000 + m.th) then .polarity
            else judgeBand f m.mant m.tl m.th))
    ∧ (∀ v : VerifySpec, (v.kind = .res → v.duration = 4) ∧ (v.kind = .diode → v.duration = 8)
        ∧ (v.kind = .link → v.duration = 3 ∧ v.rangeExp = -4)
        ∧ (v.kind = .cap → v.expo ≤ -10 → v.duration = 6) ∧ (v.kind = .cap → -10 < v.expo → v.duration = 25)
        ∧ (v.kind ≠ .link → v.rangeExp = v.expo))
    ∧ (∀ (count mant tl th : Nat), count ≤ 19999 → tl ≤ 1000 →
        (judgeBand count mant tl th = .pass ↔
          mant * 1000 - mant * tl ≤ count * 1000 ∧ count * 1000 ≤ mant * 1000 + mant * th))

/-- The start of a measurement, and a pocket that is not measured (R110, R111); the completion of a measurement by its result
and by the pocket it finds (R7, R109, R112, R113, R115). The order of the effects of a reject is free (R96, R113;
assumption log 8); M and E of a LINK in flight and the kind NONE recorded for a BYPASS are the model's choice (assumption
log 33, 34). -/
def Obligations.Measurements : Prop :=
  (∀ (s : State) (ref : EntryRef) (k : Fin 80) (e : Entry),
    s.line = .running ∨ s.line = .holding → (s.pocket (s.pocketAt 88)).state = .loaded →
    (s.pocket (s.pocketAt 88)).entry = some ref → (s.pocket (s.pocketAt 88)).station = some k →
    s.entry? ref = some e → s.verifier.flight = none →
    (∀ v, e.verification = .check v → v.kind ≠ .none →
      let u : State := { s with verifier := { s.verifier with
        flight := some ⟨s.pocketAt 88, ref, k, e.code, v.kind, v.mant, v.expo, v.tl, v.th, v.duration, v.duration⟩
        contacts := true, range := some v.rangeExp } }
      s.startMeasurement = u ∧ exec .measurementStart s = .next u.judge)
    ∧ ((e.verification = .bypass ∨ ∃ v, e.verification = .check v ∧ v.kind = .none) →
      let u := (s.setPocket (s.pocketAt 88) { s.pocket (s.pocketAt 88) with state := .verified, result := none }).modifyEntry
        ref fun e => if e.status = .loaded then { e with status := .verified } else e
      let v : State := { u with verifier := { s.verifier with
        last := some ⟨s.pocketAt 88, ref, k, e.code, .none, .notMeasured, none, s.clock⟩
        counts := { s.verifier.counts with
          notMeasured := (s.verifier.counts.notMeasured + 1) % 2 ^ 32 } } }
      s.startMeasurement = v ∧ exec .measurementStart s = .next v.judge))
    ∧ (∀ s : State, ¬((s.line = .running ∨ s.line = .holding) ∧ (s.pocket (s.pocketAt 88)).state = .loaded
        ∧ s.verifier.flight = none) → s.startMeasurement = s)
    ∧ (∀ (s : State) (m : Measurement) (f r : Nat), s.verifier.flight = some m → m.remaining = 0 →
    let result := m.judge f r
    let reading : Option Nat :=
      if result = .overRange then none else if result = .polarity then some r else some f
    let u : State := { s with verifier := { s.verifier with
      flight := none, contacts := false, range := none
      last := some ⟨m.pocket, m.entry, m.station, m.code, m.kind, .measured result, reading, s.clock⟩
      counts := match result with
        | .pass => { s.verifier.counts with pass := (s.verifier.counts.pass + 1) % 2 ^ 32 }
        | .low => { s.verifier.counts with low := (s.verifier.counts.low + 1) % 2 ^ 32 }
        | .high => { s.verifier.counts with high := (s.verifier.counts.high + 1) % 2 ^ 32 }
        | .overRange => { s.verifier.counts with overRange := (s.verifier.counts.overRange + 1) % 2 ^ 32 }
        | .polarity => { s.verifier.counts with polarity := (s.verifier.counts.polarity + 1) % 2 ^ 32 } } }
    ((s.pocket m.pocket).state = .loaded → result = .pass →
      exec (.measurementCompletion f r) s = .next (State.judge
        (((u.setPocket m.pocket { s.pocket m.pocket with state := .verified, result := some .pass }).modifyEntry m.entry
          fun e => if e.status = .loaded then { e with status := .verified } else e).passNotice m.station)))
    ∧ ((s.pocket m.pocket).state = .loaded → result ≠ .pass →
      let v := (u.setPocket m.pocket ⟨.rejected, none, none, some result, some .verify⟩).draw
      let fall (x : State) : State := x.fallBack m.entry true (some m.station)
      let fail (x : State) : State := x.failNotice m.station
      let report (x : State) : State := x.raise .verifyReject .warn
        ⟨some m.station.val, some m.pocket.val, some m.entry.board, some m.entry.index, some m.code,
          (match result with | .low => 1 | .high => 2 | .overRange => 3 | _ => 4) * 100000 + reading.getD 0⟩
      ∃ w ∈ [report (fail (fall v)), fail (report (fall v)), report (fall (fail v)), fall (report (fail v)),
          fail (fall (report v)), fall (fail (report v))],
        exec (.measurementCompletion f r) s = .next w.judge)
    ∧ ((s.pocket m.pocket).state = .orphan →
      exec (.measurementCompletion f r) s = .next (State.judge
        (u.setPocket m.pocket { s.pocket m.pocket with result := some result }))))

/-! ## Table positioning -/

/-- HOME, its stages and its ends (R121, R122, R123, R141): the refusals, what acceptance does to the axes, the switch edge,
the end of a park, and the notices of the axes that lose their homing. Which notice to ALC comes first is free (assumption log 8); that HOME clears the purpose, and that the
last edge is the one after which no table axis seeks its switch, are the model's choice (assumption log 20, 25), and so is the
field that tells that an axis in park still decelerates from its search (assumption log 17). -/
def Obligations.Homing : Prop :=
  (∀ (tag : Byte) (axes : Nat) (s : State), s.takesAtOnce →
      (axes = 0 ∨ 15 < axes → Answers (.home tag axes) s s.countAccepted 0x9A#8 tag [0x03#8])
      ∧ (1 ≤ axes → axes ≤ 15 → s.line ≠ .unready → s.line ≠ .ready → s.line ≠ .held →
          Answers (.home tag axes) s s.countAccepted 0x9A#8 tag [0x04#8])
      ∧ (1 ≤ axes → axes ≤ 15 → s.line = .unready ∨ s.line = .ready ∨ s.line = .held →
          let named (a : Axis) : Bool := axes.testBit (axisNum a)
          let table : Bool := named .x || named .y || named .r
          if ([Axis.x, .y, .r, .span].any fun a => named a && (s.axis a).isHoming) = true
              ∨ (table = true ∧ s.head.state ≠ .top ∧ s.head.state ≠ .wait) then
            Answers (.home tag axes) s s.countAccepted 0x9A#8 tag [0x05#8]
          else
            ∃ (u : State) (lost : List Axis), Answers (.home tag axes) s (u.noticeUnhomed lost).judge 0x9A#8 tag [0x00#8]
              ∧ (∀ a, a ∈ lost ↔ named a = true ∧ (s.axis a).homed = true)
              ∧ (∀ a, u.axis a = if named a = true then
                  { s.axis a with
                    homed := false, drive := true, target := none, parked := none, slowing := false
                    state := .homing (if homeSwitch s.pins a then .clear else .search) }
                else s.axis a)
              ∧ (table = true → u.table.purpose = none ∧ u.table.positioned = false ∧ u.table.kept = none
                  ∧ u.table.followError = false ∧ u.watch .table = ⟨.running, 20000⟩)
              ∧ (named .span = true → u.head.keptSpan = none ∧ u.watch .span = ⟨.running, 20000⟩)
              ∧ u.head.state = s.head.state ∧ u.head.held = s.head.held ∧ u.chain = s.chain
              ∧ u.boards = s.boards ∧ u.stations = s.stations ∧ u.alarms = s.alarms))
    ∧ (∀ (a : Axis) (s : State),
        let u : State := { s with pins := setHomeSwitch s.pins a false }
        let v : State := { s with pins := setHomeSwitch s.pins a true }
        let park : Int := match a with
          | .x => s.table.geometry.lx | .y => s.table.geometry.ly | .r => 0 | .span => 2000
        ((s.axis a).state = .homing .clear → exec (.homeSwitchArrival a false) s =
          .next (u.setAxis a { s.axis a with state := .homing .search }).judge)
        ∧ ((s.axis a).state = .homing .search → exec (.homeSwitchArrival a true) s =
          .next (((v.setAxis a { s.axis a with
            counter := 0, commanded := 0, homed := true, target := some park, state := .homing .park
            parked := none, slowing := true }).noticeHomed a true).edgeWatch a).judge)
        ∧ ((s.axis a).state ≠ .homing .clear → exec (.homeSwitchArrival a false) s = .next u.judge)
        ∧ ((s.axis a).state ≠ .homing .search → exec (.homeSwitchArrival a true) s = .next v.judge))
    ∧ (∀ (s : State), s.edgeWatch .span = s.startWatch .span s.inputs.timeouts.span
        ∧ ∀ a, a ≠ .span → s.edgeWatch a =
          if ([Axis.x, .y, .r].any fun b =>
              decide ((s.axis b).state = .homing .clear ∨ (s.axis b).state = .homing .search)) = true then s
          else s.startWatch .table s.inputs.timeouts.table)
    ∧ (∀ (a : Axis) (n : Nat) (s : State), a ≠ .span → (s.axis a).state = .homing .park → (s.axis a).parked = some n →
        s.table.geometry.settle ≤ n →
        let u := (s.setAxis a { s.axis a with state := .inPosition, parked := none, slowing := false }).emit 0x44#8
          (u8 (axisNum a) ++ i32 (s.axis a).counter)
        exec (.homingParkSettled a) s = .next (State.judge
          (if u.table.x.isHoming || u.table.y.isHoming || u.table.r.isHoming then u else u.stopWatch .table)))
    -- the notices of several axes, the home switch inputs, and HOMING
    ∧ (∀ s : State, s.noticeUnhomed [] = s ∧ (∀ a, s.noticeUnhomed [a] = s.noticeHomed a false)
        ∧ ∀ a l, l ≠ [] → ∃ first ∈ a :: l,
          s.noticeUnhomed (a :: l) = (first :: a :: l).foldl (fun t b => t.noticeHomed b false) s.draw)
    ∧ (∀ (p : Pins) (a b : Axis) (made : Bool),
        homeSwitch (setHomeSwitch p a made) b = if b = a then made else homeSwitch p b)
    ∧ ∀ v : AxisRec, v.isHoming = true ↔ ∃ stage, v.state = .homing stage

/-- SET_GEOMETRY: its refusals in order and what it makes of the table (R124, R125, R126, R58). OUT_OF_TRAVEL names the first
pair of INSERT step and image that fails, in step order and then in image order (R55, R125). The reply carries the fields of R124 in their order (R126, R201). That an axis that is SETTLING
stays so under a new geometry is the model's choice (assumption log 39). -/
def Obligations.GeometryCommand : Prop :=
  ∀ (tag : Byte) (g : Geometry) (s : State), s.takesAtOnce →
    (geometryOk g = true ↔ geometryInRange g)
    ∧ (if geometryOk g = false then Answers (.setGeometry tag g) s s.countAccepted 0x9B#8 tag [0x03#8]
      else if s.line = .running ∨ s.line = .holding then Answers (.setGeometry tag g) s s.countAccepted 0x9B#8 tag [0x04#8]
      else if s.table.x.isHoming = true ∨ s.table.y.isHoming = true ∨ s.table.r.isHoming = true then
        Answers (.setGeometry tag g) s s.countAccepted 0x9B#8 tag [0x05#8]
      else
        match s.travelWith g with
        | some (step, image) =>
          Answers (.setGeometry tag g) s s.countAccepted 0x9B#8 tag (0x12#8 :: (u16 step ++ u8 image))
        | none =>
          let rest (v : AxisRec) : AxisRec := if v.state = .inPosition then { v with state := .idle } else v
          Answers (.setGeometry tag g) s
            (State.judge { s.countAccepted with table := { s.table with
              x := rest s.table.x, y := rest s.table.y, r := rest s.table.r
              purpose := none, positioned := false, settle := none, geometry := g } }) 0x9B#8 tag
            (0x00#8 :: geometryBytes g))
    ∧ (let i16 (n : Int) : List Byte := u16 (BitVec.ofInt 16 n).toNat
      geometryBytes g = u32 g.hx ++ u32 g.hy ++ u16 g.rcx ++ u16 g.rcy ++ i16 g.sx ++ i16 g.sy ++ u32 g.xmin ++ u32 g.xmax
        ++ u32 g.ymin ++ u32 g.ymax ++ u32 g.lx ++ u32 g.ly ++ u8 g.window ++ u8 g.settle ++ u16 g.following)
    ∧ (s.travelWith g = none ↔ ∀ h steps inserts barriers, s.programs.store = .loaded h steps inserts barriers →
        ∀ (i : Nat) (r : StepRecord) (image : Nat), steps[i]? = some r → r.kind = 1 → image < h.images →
          inTravel g (target g r.x r.y r.byte1 (h.offset image)) = true)
    ∧ (∀ step image, s.travelWith g = some (step, image) ↔
        ∃ h steps inserts barriers, s.programs.store = .loaded h steps inserts barriers
          ∧ (∃ r, steps[step]? = some r ∧ r.kind = 1 ∧ image < h.images
            ∧ inTravel g (target g r.x r.y r.byte1 (h.offset image)) = false)
          ∧ ∀ (j : Nat) (r : StepRecord) (im : Nat), steps[j]? = some r → r.kind = 1 → im < h.images →
            j < step ∨ (j = step ∧ im < image) → inTravel g (target g r.x r.y r.byte1 (h.offset im)) = true)

/-- Moves of the table: the entry wanted, when an entry move and a load-position move are due, their starts, the load position,
the restart of a kept move, the profiles, the rest after a STOP, the window and the settle time of a move and of a park, the
following error, the settled table and the encoder counts (R120, R122, R129 to R133, R135, R140). The senses of a homing hold
for the steps of an encoder count (R122), and a stopped axis rests short of its target or at it (R135). That steps and the
place of rest come with these events, the steps short of the target of a move, and that the window is watched while a purpose
stands, are the model's choice (assumption log 17, 19), and so is the order of these judgements in an event (assumption log
11). -/
def Obligations.TableMoves : Prop :=
  ∀ s : State,
    let start (v : AxisRec) (t : Int) : AxisRec :=
      { v with target := some t, state := if v.commanded = t then .settling else .moving }
    let toEntry (ref : EntryRef) (g : Int × Int × Int) : State := State.startWatch { s with table := { s.table with
        x := start s.table.x g.1, y := start s.table.y g.2.1, r := start s.table.r g.2.2
        purpose := some (.entry ref), inFlight := true, positioned := false, kept := none, followError := false
        settle := none } } .table s.inputs.timeouts.table
    let toLoad : State := State.startWatch { s with table := { s.table with
        x := start s.table.x s.table.geometry.lx, y := start s.table.y s.table.geometry.ly, r := start s.table.r 0
        purpose := some .load, inFlight := true, positioned := false, kept := none, followError := false
        settle := none, loadRequest := false } } .table s.inputs.timeouts.table
    let positioned (u : State) : State := State.stopWatch { u with table := { u.table with
        x := { u.table.x with state := .inPosition }, y := { u.table.y with state := .inPosition }
        r := { u.table.r with state := .inPosition }
        positioned := true, inFlight := false, settle := none } } .table
    -- the counter of an axis that is SETTLING or IN_POSITION, within the window of its target or outside it
    let within (v : AxisRec) : Bool := v.target.any fun t => (t - v.counter).natAbs ≤ s.table.geometry.window
    let atRest (v : AxisRec) : Bool := (v.state = .settling || v.state = .inPosition) && within v
    let settles : Bool := s.table.purpose.isSome && atRest s.table.x && atRest s.table.y && atRest s.table.r
      && (s.table.x.state = .settling || s.table.y.state = .settling || s.table.r.state = .settling)
    (∀ ref e h r, s.entry? ref = some e → s.programs.store.header? = some h →
      s.programs.store.steps[e.step]? = some r →
      let g := target s.table.geometry r.x r.y r.byte1 (h.offset e.image)
      (s.entryMoveDue = some ref →
        s.startEntryMove = toEntry ref g ∧ exec .entryMoveStart s = .next (toEntry ref g).judge)
      ∧ (s.table.kept = some (.entry ref) → s.entryMoveDue = some ref → s.restartKept = toEntry ref g))
    ∧ (s.loadMoveDue = true → s.startLoadMove = toLoad ∧ exec .loadMoveStart s = .next toLoad.judge)
    -- the entry wanted, the two moves that are due, and the load position
    ∧ (let clamped (ref : EntryRef) : Bool := (s.board? ref.board).any fun b => b.phase = .clamped
      let wanted : Option EntryRef := match s.head.state with
        | .pickStroke | .pickSpanWait | .form | .wait => s.head.held.map (·.ref)
        | .top =>
          if (s.pocket (s.pocketAt 96)).state = .verified then (s.pocket (s.pocketAt 96)).entry.filter clamped else none
        | _ => none
      let free : Prop := s.line = .running ∧ s.table.inFlight = false
        ∧ ∀ a, a ≠ .span → (s.axis a).isHoming = false ∧ (s.axis a).homed = true
      (∀ ref, s.entryMoveDue = some ref ↔ free ∧ wanted = some ref ∧ clamped ref = true
        ∧ s.table.purpose ≠ some (.entry ref)
        ∧ s.head.state ≠ .clinch ∧ s.head.state ≠ .rise ∧ ∀ l r, s.head.state ≠ .drive l r)
      ∧ (s.loadMoveDue = true ↔ free ∧ s.table.loadRequest = true
        ∧ ∀ b, s.boards.active = some b → b.phase = .waiting ∨ b.phase = .loading ∨ b.phase = .unloading))
    ∧ (let at' (a : Axis) (t : Int) : Prop := (s.axis a).homed = true ∧ (s.axis a).isHoming = false
        ∧ (s.axis a).state ≠ .moving ∧ (s.axis a).state ≠ .settling
        ∧ (t - (s.axis a).counter).natAbs ≤ s.table.geometry.window
      s.table.atLoad = true ↔ at' .x s.table.geometry.lx ∧ at' .y s.table.geometry.ly ∧ at' .r 0)
    -- the kept move at the entry into RUNNING
    ∧ (s.table.kept = none → s.restartKept = s)
    ∧ (s.table.kept = some .load → s.entryMoveDue = none → s.restartKept = toLoad)
    ∧ (∀ ref, s.table.kept = some .load → s.entryMoveDue = some ref →
      s.restartKept = { s with table := { s.table with kept := none } })
    ∧ (∀ ref, s.table.kept = some (.entry ref) → s.entryMoveDue ≠ some ref →
      s.restartKept = { s with table := { s.table with kept := none } })
    -- the window, the settle time and the following error
    ∧ s.judgeAxes = (((((((s.judgeDeparture.judgeFollow .x).judgeFollow .y).judgeFollow .r).judgeTable).judgePark
        .x).judgePark .y).judgePark .r).judgeSpan
    ∧ (s.table.purpose = none → s.judgeDeparture = s)
    ∧ (s.table.purpose ≠ none →
      let out (v : AxisRec) : Bool := v.state = .inPosition && !within v
      let leave (v : AxisRec) : AxisRec := if out v then { v with state := .settling } else v
      s.judgeDeparture = { s with table := { s.table with
        x := leave s.table.x, y := leave s.table.y, r := leave s.table.r
        positioned := s.table.positioned && !(out s.table.x || out s.table.y || out s.table.r) } })
    ∧ (settles = false → s.judgeTable = { s with table := { s.table with settle := none } })
    ∧ (settles = true → s.judgeTable =
      if s.table.geometry.settle = 0 then positioned s
      else { s with table := { s.table with settle := some (s.table.settle.getD 0) } })
    ∧ (s.positionDue = true ↔ settles = true ∧ ∃ n, s.table.settle = some n ∧ s.table.geometry.settle ≤ n)
    ∧ (∀ a, a ≠ .span →
      let v := s.axis a
      let size := (v.commanded - v.counter).natAbs
      if (v.state = .moving ∨ v.state = .settling ∨ v.isHoming = true) ∧ s.table.geometry.following < size
          ∧ s.table.followError = false then
        let ref : Option EntryRef := match s.table.purpose with | some (.entry ref) => some ref | _ => none
        s.judgeFollow a = State.raise { s with table := { s.table with followError := true } } .followingError .stop
          ⟨none, none, ref.map (·.board), ref.map (·.index), none, axisNum a * 100000 + min size 99999⟩
      else s.judgeFollow a = s)
    -- the park at the end of a homing: the window and the settle time
    ∧ (∀ a, a ≠ .span →
      let v := s.axis a
      ((v.state ≠ .homing .park) → s.judgePark a = s)
      ∧ (v.state = .homing .park → within v = false → s.judgePark a = s.setAxis a { v with parked := none })
      ∧ (v.state = .homing .park → within v = true → s.table.geometry.settle ≠ 0 →
        s.judgePark a = s.setAxis a { v with parked := some (v.parked.getD 0) })
      ∧ (v.state = .homing .park → within v = true → s.table.geometry.settle = 0 →
        let u := (s.setAxis a { v with state := .inPosition, parked := none, slowing := false }).emit 0x44#8
          (u8 (axisNum a) ++ i32 v.counter)
        s.judgePark a = if u.table.x.isHoming || u.table.y.isHoming || u.table.r.isHoming then u else u.stopWatch .table))
    ∧ (∀ a t, (s.axis a).state = .moving → (s.axis a).target = some t →
        (if a = .span then s.head.keptSpan = none else s.table.inFlight = true) →
        exec (.axisProfileComplete a) s =
          .next (s.setAxis a { s.axis a with state := .settling, commanded := t }).judge)
    -- a stopped axis comes to rest short of its target or at it
    ∧ (∀ a rest t, (s.axis a).state = .moving → (s.axis a).target = some t →
        (if a = .span then s.head.keptSpan ≠ none else s.table.inFlight = false) →
        exec (.axisDecelerated a rest) s = .next (s.setAxis a { s.axis a with
          state := .idle, commanded := approach t (s.axis a).commanded (rest - (s.axis a).commanded) }).judge)
    ∧ (∀ commanded rest t : Int, (commanded ≤ rest ∧ rest ≤ t) ∨ (t ≤ rest ∧ rest ≤ commanded) →
        approach t commanded (rest - commanded) = rest)
    ∧ (s.positionDue = true → exec .tablePositioned s = .next (positioned s).judge)
    ∧ (∀ a (positive : Bool) n,
        let c : Int := (s.axis a).counter + (if positive then 1 else -1)
        c ≤ 2147483647 → -2147483648 ≤ c →
        exec (.encoderCount a positive n) s = .next (s.setAxis a { s.axis a with
          counter := c
          commanded := if (s.axis a).drive = false then c else commandedAfter (s.axis a) n
          slowing := slowingAfter (s.axis a) n }).judge)
    ∧ (∀ n : Int, -2147483648 ≤ n → n ≤ 2147483647 → position32 n = n)

/-! ## The insertion head -/

/-- Pick and form, and the span moves they wait for: the start of a span move, its end, a departure from the window and the
end of the span axis's park (R19, R140 to R145). That a span move in flight stands from its start to IN_POSITION, and that an
axis that has only left its window is in no span move, so that a new one starts, are the model's choice (assumption log
18). In recovery an unowned component in SPAN_WAIT goes to DISCARD in place of FORM, once the kept span move has ended (R154);
that it does so at once where no span move was kept is the model's choice (assumption log 41). -/
def Obligations.PickAndForm : Prop :=
  ∀ s : State,
    (s.pickDue = true ↔ s.line = .running ∧ s.head.state = .top ∧ (s.pocket (s.pocketAt 96)).state = .verified)
    ∧ (s.pickDue = true → ∃ u : State, s.startPick = u ∧ exec .pickStart s = .next u.judge
        ∧ u.head = { s.head with
            state := .pickStroke
            outputs := { s.head.outputs with pick := true, jawAir := true }
            counts := { s.head.counts with picks := (s.head.counts.picks + 1) % 2 ^ 32 } }
        ∧ u.watch .head = ⟨.running, s.inputs.timeouts.head⟩ ∧ u.chain = s.chain ∧ u.boards = s.boards
        ∧ u.table = s.table ∧ u.alarms = s.alarms)
    ∧ (s.head.state = .pickStroke →
        let u := State.stopWatch { s.setPocket (s.pocketAt 96) ⟨.empty, none, none, none, none⟩ with
          head := { s.head with outputs := { s.head.outputs with pick := false } } } .head
        (∀ ref e, (s.pocket (s.pocketAt 96)).entry = some ref → s.entry? ref = some e →
          let v := u.modifyEntry ref fun o =>
            if o.status = .verified then { o with status := .inHead, pocket := none, hostRemake := false } else o
          exec .pickCompletion s = .next (State.judge { v with head := { v.head with
            state := .pickSpanWait, held := some ⟨ref, e.span, e.clinch, e.drive⟩ } }))
        ∧ ((s.pocket (s.pocketAt 96)).entry = none →
          let v : State := { u with head := { u.head with unowned := true } }
          exec .pickCompletion s = .next (State.judge
            (if s.line = .running ∨ s.line = .recovering then v.enterDiscard else v.enterWait))))
    ∧ (s.head.state = .form → exec .formCompletion s = .next (State.judge (State.stopWatch { s with head := { s.head with
        state := .wait, outputs := { s.head.outputs with form := false } } } .head)))
    ∧ (s.head.state ≠ .pickStroke → exec .pickCompletion s = .next s.judge)
    ∧ (s.head.state ≠ .form → exec .formCompletion s = .next s.judge)
    ∧ (∀ h, s.head.state = .pickSpanWait → s.head.held = some h → s.head.spanAt (h.span * 40) = true →
        s.judgeForm = State.startWatch { s with head := { s.head with
          state := .form, outputs := { s.head.outputs with form := true } } } .head s.inputs.timeouts.head)
    ∧ (∀ h, s.head.held = some h → s.head.state ≠ .pickSpanWait ∨ s.head.spanAt (h.span * 40) = false → s.judgeForm = s)
    ∧ (s.head.held = none → s.judgeForm =
        if s.line = .recovering ∧ s.head.state = .pickSpanWait ∧ s.head.unowned = true ∧ s.head.spanMoving = false then
          s.enterDiscard else s)
    ∧ (∀ t, s.head.spanAt t = true ↔ s.head.span.state = .inPosition ∧ s.head.span.target = some t)
    -- a span move starts while the axis neither stands at the span of the entry held nor is in a move to it
    ∧ (s.head.held = none → s.judgeSpanMove = s)
    ∧ (∀ h, s.head.held = some h →
      let t : Int := h.span * 40
      let v := s.head.span
      if (s.head.state = .pickSpanWait ∨ (s.head.state = .wait ∧ s.line = .running)) ∧ v.homed = true
          ∧ v.isHoming = false ∧ ¬(v.state = .inPosition ∧ v.target = some t)
          ∧ ¬(s.head.spanMoving = true ∧ v.target = some t) then
        s.judgeSpanMove = (s.startSpan t).judgeSpan
      else s.judgeSpanMove = s)
    ∧ (∀ t, s.startSpan t = State.startWatch { s with head := { s.head with
        keptSpan := none, spanMoving := true
        span := { s.head.span with
          target := some t, state := if s.head.span.commanded = t then .settling else .moving } } } .span
        s.inputs.timeouts.span)
    ∧ (let v := s.head.span
      let near : Prop := ∃ t, v.target = some t ∧ (t - v.counter).natAbs ≤ 4
      (v.state = .settling → near → s.judgeSpan = State.stopWatch { s with head := { s.head with
        span := { v with state := .inPosition }, spanMoving := false } } .span)
      ∧ (v.state = .homing .park → near → s.judgeSpan =
        (State.emit { s with head := { s.head with span := { v with state := .inPosition, slowing := false } } } 0x44#8
          (u8 3 ++ i32 v.counter)).stopWatch .span)
      ∧ (v.state = .inPosition → ¬near → s.judgeSpan =
        { s with head := { s.head with span := { v with state := .settling } } })
      ∧ (v.state = .inPosition → near → s.judgeSpan = s)
      ∧ (v.state ≠ .inPosition → ¬near → s.judgeSpan = s)
      ∧ (v.state ≠ .settling → v.state ≠ .homing .park → v.state ≠ .inPosition → s.judgeSpan = s))

/-- Drive and clinch with their outcomes (R68, R145, R146, R147); an arrival in a head state that does not await it is not
recorded, and no more happens than the judgement that ends every event (R139). That the raise of LEAD_MISS comes last in its event is the
model's choice (assumption log 36). -/
def Obligations.DriveAndClinch : Prop :=
  ∀ s : State,
    (s.driveDue = true ↔ s.line = .running ∧ s.head.state = .wait ∧ s.head.clinch = .retracted
      ∧ ∃ h, s.head.held = some h ∧ s.table.positioned = true ∧ s.table.purpose = some (.entry h.ref)
        ∧ s.head.span.state = .inPosition ∧ s.head.span.target = some (h.span * 40))
    ∧ (∀ h, s.driveDue = true → s.head.held = some h →
        let u := State.startWatch { s with head := { s.head with
          state := .drive false false, outputs := { s.head.outputs with drive := some h.drive } } } .head
          s.inputs.timeouts.head
        s.startDrive = u ∧ exec .driveStart s = .next u.judge)
    ∧ (∀ l r, s.head.state = .drive l r →
        exec (.leadSensorArrival .left) s = .next (State.judge { s with head := { s.head with state := .drive true r } })
        ∧ exec (.leadSensorArrival .right) s =
          .next (State.judge { s with head := { s.head with state := .drive l true } }))
    ∧ (∀ side, (∀ l r, s.head.state ≠ .drive l r) → exec (.leadSensorArrival side) s = .next s.judge)
    ∧ (∀ l r h, s.head.state = .drive l r → s.head.held = some h →
        (if l = true ∧ r = true then
          match h.clinch with
          | .inward => exec .driveCompletion s = .next (s.enterClinch .inward).judge
          | .outward => exec .driveCompletion s = .next (s.enterClinch .outward).judge
          | .none => exec .driveCompletion s = .next s.insertHeld.enterRise.judge
        else exec .driveCompletion s = .next (State.judge (((s.failHeld .leadMiss false).enterRise).raise .leadMiss
          s.alarms.slots.insert ⟨none, none, some h.ref.board, some h.ref.index, some (s.codeOf h.ref),
            (if l then 0 else 1) + if r then 0 else 2⟩))))
    -- an arrival that finds no drive, or no clinch stroke, in flight is not recorded
    ∧ ((∀ l r, s.head.state ≠ .drive l r) → exec .driveCompletion s = .next s.judge)
    ∧ (∀ l r, s.head.state ≠ .clinch → exec (.clinchCompletion l r) s = .next s.judge)
    ∧ (∀ l r h, s.head.state = .clinch → s.head.held = some h →
        let u : State := { s with pins := { s.pins with cutLeft := l, cutRight := r } }
        (l = true ∧ r = true → exec (.clinchCompletion l r) s = .next u.insertHeld.enterRise.judge)
        ∧ (l = false ∨ r = false → exec (.clinchCompletion l r) s = .next (State.judge
          ((u.unclinchHeld.enterRise).raise .clinchFail .stop
            ⟨none, none, some h.ref.board, some h.ref.index, some (s.codeOf h.ref),
              (if l then 0 else 1) + if r then 0 else 2⟩))))
    ∧ (∀ h, s.head.held = some h →
        let c := s.head.counts
        let u := s.noticeOutcome h.ref .inserted
        let v := s.noticeOutcome h.ref .unclinched
        s.insertHeld = { u with head := { s.head with
          held := none, counts := { c with inserted := (c.inserted + 1) % 2 ^ 32 } } }
        ∧ s.unclinchHeld = { v with head := { s.head with
          held := none, counts := { c with unclinched := (c.unclinched + 1) % 2 ^ 32 } } }
        ∧ ∀ cause mark, s.failHeld cause mark = { s.noticeOutcome h.ref (.failedOpen cause mark) with
          head := { s.head with
            held := none, counts := { c with failedOpen := (c.failedOpen + 1) % 2 ^ 32 } } })
    ∧ (∀ ref e, s.entry? ref = some e →
        (e.status = .inHead →
          (s.noticeOutcome ref .inserted).entry? ref =
            some { e with status := .inserted, pocket := none, cause := none, hostRemake := false }
          ∧ (s.noticeOutcome ref .unclinched).entry? ref =
            some { e with status := .unclinched, pocket := none, cause := none, hostRemake := false, unclinched := true }
          ∧ ∀ cause mark, (s.noticeOutcome ref (.failedOpen cause mark)).entry? ref =
            some { e with status := .failedOpen, cause := some cause, unclinched := e.unclinched || mark })
        ∧ (e.status ≠ .inHead → ∀ o, s.noticeOutcome ref o = s))

/-- Return, discard, the inputs of the head and its course in recovery (R138, R139, R147, R148, R149, R154). That jaw air goes
off as the head becomes TOP, and comes on in recovery for a head that is not HALTED, are the model's choice (assumption
log 13); so are that a head halted from RESET becomes TOP at a head-top arrival in every line state and that the pick stroke
repeated in recovery counts no pick (assumption log 21), how a span move in flight is told, which the head's part of
recovery waits for (assumption log 18). A head halted from PICK SPAN_WAIT takes up its kept span move whether or not its
component is still owned (R154); what follows is in PickAndForm. -/
def Obligations.ReturnAndDiscard : Prop :=
  ∀ s : State,
    (∃ u : State, s.enterRise = u ∧ u.head = { s.head with
        state := .rise
        clinch := match s.head.clinch with
          | .stroking _ | .stopped _ => .retracting
          | c => c
        outputs := { s.head.outputs with
          drive := none, rise := true
          clinch := (match s.head.clinch with
            | .stroking _ | .stopped _ => none
            | _ => s.head.outputs.clinch)
          retract := (match s.head.clinch with
            | .stroking _ | .stopped _ => true
            | _ => s.head.outputs.retract) } }
      ∧ u.watch .head = ⟨.running, s.inputs.timeouts.head⟩)
    ∧ (∀ dir, ∃ u : State, s.enterClinch dir = u ∧ u.head = { s.head with
        state := .clinch, clinch := .stroking dir
        outputs := { s.head.outputs with clinch := some dir, retract := false } }
      ∧ u.watch .head = ⟨.running, s.inputs.timeouts.head⟩)
    ∧ (s.head.state = .rise → s.pins.headTop = true → s.head.clinch = .retracted →
        s.judgeRise = State.stopWatch { s with head := { s.head with
          state := .top, outputs := { s.head.outputs with rise := false, release := false, jawAir := false } } } .head)
    ∧ (∀ made, s.head.clinch = .retracting ∧ made = true →
        exec (.clinchHomeArrival made) s = .next (State.judge { s with
          pins := { s.pins with clinchHome := made }
          head := { s.head with clinch := .retracted, outputs := { s.head.outputs with retract := false } } }))
    ∧ (∀ made, s.head.clinch ≠ .retracting ∨ made = false →
        exec (.clinchHomeArrival made) s = .next (State.judge { s with pins := { s.pins with clinchHome := made } }))
    ∧ (∀ air, s.head.state = .halted .reset air → exec (.headTopArrival true) s = .next (State.judge
        ((State.enterTop { s with pins := { s.pins with headTop := true } }).noticeHalted false)))
    ∧ (∀ made, (∀ air, s.head.state ≠ .halted .reset air) ∨ made = false →
        exec (.headTopArrival made) s = .next (State.judge { s with pins := { s.pins with headTop := made } }))
    ∧ (s.discardDue = true ↔ s.line = .running ∧ s.head.state = .wait ∧ s.head.unowned = true)
    ∧ (s.discardDue = true →
        let u := State.startWatch { s with head := { s.head with
          state := .discard, outputs := { s.head.outputs with release := true, jawAir := false } } } .head
          s.inputs.timeouts.head
        s.startDiscard = u ∧ exec .discardStart s = .next u.judge)
    ∧ (∀ made, exec (.jawsOpenArrival made) s =
        .next (State.judge { s with pins := { s.pins with jawsOpen := made } }))
    ∧ (s.head.state = .discard → s.pins.jawsOpen = true →
        s.judgeDiscard = State.stopWatch { s with head := { s.head with
          state := .top, unowned := false
          counts := { s.head.counts with discards := (s.head.counts.discards + 1) % 2 ^ 32 }
          outputs := { s.head.outputs with rise := false, release := false, jawAir := false } } } .head)
    -- the course of recovery: jaw air comes back unless it was lost, and the head leaves HALTED by the state it left
    ∧ ((∀ src air, s.head.state ≠ .halted src air) →
        s.recoverHead = { s with head := { s.head with outputs := { s.head.outputs with jawAir := true } } })
    ∧ (∀ src, s.head.state = .halted src true → s.recoverHead = (s.noticeHalted false).enterRise)
    ∧ (∀ src, s.head.state = .halted src false →
        let u := State.noticeHalted
          { s with head := { s.head with outputs := { s.head.outputs with jawAir := true } } } false
        let orDiscard (v : State) : State := if u.head.unowned = true then u.enterDiscard else v
        s.recoverHead =
          match src with
          | .reset | .top | .drive | .clinch | .rise => u.enterRise
          | .pickStroke => u.enterPick
          | .pickSpanWait =>
            let w : State := { u with head := { u.head with state := .pickSpanWait } }
            match u.head.keptSpan with
            | some t => if u.head.span.homed = true ∧ u.head.span.isHoming = false then w.startSpan t else w
            | none => w
          | .form => orDiscard (State.startWatch { u with head := { u.head with
              state := .form, outputs := { u.head.outputs with form := true } } } .head u.inputs.timeouts.head)
          | .wait => orDiscard (State.stopWatch { u with head := { u.head with state := .wait } } .head)
          | .discard => u.enterDiscard)
    ∧ s.enterPick = State.startWatch { s with head := { s.head with
        state := .pickStroke, outputs := { s.head.outputs with pick := true, jawAir := true } } } .head
        s.inputs.timeouts.head
    ∧ s.enterDiscard = State.startWatch { s with head := { s.head with
        state := .discard, outputs := { s.head.outputs with release := true, jawAir := false } } } .head
        s.inputs.timeouts.head
    ∧ s.enterTop = State.stopWatch { s with head := { s.head with
        state := .top, outputs := { s.head.outputs with rise := false, release := false, jawAir := false } } } .head
    ∧ s.enterWait = State.stopWatch { s with head := { s.head with state := .wait } } .head
    ∧ (s.headRecovered = true ↔ (s.head.state = .top ∨ s.head.state = .wait) ∧ s.head.clinch = .retracted
        ∧ s.head.spanMoving = false)

/-! ## The board conveyor -/

/-- Loading and unloading (R157 to R163): the load request, the conditions, the starts, the entry wait when the ACTIVE slot
changes, and what each arrival does in each transport state; an arrival that no rule awaits is recorded only. -/
def Obligations.ConveyorEvents : Prop :=
  ∀ s : State,
    (s.loadDue = true ↔ (∃ b, s.boards.active = some b ∧ b.phase = .waiting) ∧ s.conveyor.state = .empty
      ∧ s.table.atLoad = true ∧ s.pins.stopSensor = false ∧ s.pins.exitSensor = false ∧ s.line = .running)
    ∧ (∀ b, s.loadDue = true → s.boards.active = some b →
        let u : State := { s with conveyor := { s.conveyor with state := .entryWait, board := some b.id } }
        let v := if s.pins.entrySensor = true then u.startEntryRun
          else { u with inputs := { s.inputs with
            transportWait := some ⟨false, s.inputs.timeouts.board, b.id, none⟩ } }
        s.startLoad = v ∧ exec .loadStart s = .next v.judge)
    -- BCV's load request
    ∧ s.judgeLoadRequest = (
        if ((s.conveyor.state = .empty ∧ (s.boards.active.any fun b => b.phase = .waiting) = true)
            ∨ s.conveyor.state = .tableWait)
          ∧ s.table.atLoad = false ∧ s.table.loadRequest = false
          ∧ ¬(s.table.inFlight = true ∧ s.table.purpose = some .load) ∧ s.table.kept ≠ some .load then
          { s with table := { s.table with loadRequest := true } }
        else s)
    -- the entry wait when the ACTIVE slot changes under it
    ∧ (s.conveyor.state ≠ .entryWait → s.judgeEntryWait = s)
    ∧ (s.conveyor.state = .entryWait →
        let u := if (s.inputs.transportWait.any (·.expired)) = true then
            s.emit 0x42#8 (u8 6 ++ u32 s.clock ++ [1#8, 0#8]) else s
        (s.boards.active = none → s.judgeEntryWait = { u with
          conveyor := { s.conveyor with state := .empty, board := none }
          inputs := { s.inputs with transportWait := none } })
        ∧ (∀ b, s.boards.active = some b → s.conveyor.board = some b.id → s.judgeEntryWait = s)
        ∧ (∀ b, s.boards.active = some b → s.conveyor.board ≠ some b.id → s.judgeEntryWait = { u with
          conveyor := { s.conveyor with board := some b.id }
          inputs := { s.inputs with transportWait := some ⟨false, s.inputs.timeouts.board, b.id, none⟩ } }))
    ∧ (∀ made, exec (.entrySensorArrival made) s =
        .next (State.judge { s with pins := { s.pins with entrySensor := made } }))
    ∧ (s.judgeEntryRun =
        if s.conveyor.state = .entryWait ∧ s.pins.entrySensor = true ∧ s.line = .running then s.startEntryRun else s)
    ∧ (∀ b, s.boards.active = some b → s.conveyor.board = some b.id →
        ∃ u : State, s.startEntryRun = u
          ∧ u.conveyor = { s.conveyor with
              state := .entryRun false false, outputs := { s.conveyor.outputs with entryRun := true } }
          ∧ u.watch .conveyor = ⟨.running, s.inputs.timeouts.conveyor⟩ ∧ u.inputs.transportWait = none
          ∧ u.boards.active = some { b with phase := .loading } ∧ u.chain = s.chain ∧ u.table = s.table
          ∧ u.head = s.head ∧ u.alarms = s.alarms)
    ∧ (∀ (reached made : Bool), let u : State := { s with pins := { s.pins with stopSensor := made } }
        (s.conveyor.state = .entryRun false reached → made = true →
          exec (.stopSensorArrival made) s = .next (State.judge (State.stopWatch { u with conveyor := { s.conveyor with
            state := .clamping
            outputs := { s.conveyor.outputs with entryRun := false, pinsUp := true, clampClose := true } } } .conveyor)))
        ∧ (s.conveyor.state = .entryRun true reached → made = true →
          exec (.stopSensorArrival made) s = .next (State.judge { u with conveyor := { s.conveyor with
            state := .entryRun true true } }))
        ∧ (made = false ∨ (∀ h r, s.conveyor.state ≠ .entryRun h r) →
          exec (.stopSensorArrival made) s = .next u.judge))
    ∧ (∀ made, let u : State := { s with pins := { s.pins with clampClosed := made } }
        (∀ id, s.conveyor.state = .clamping → s.conveyor.board = some id → made = true →
          exec (.clampClosedArrival made) s = .next (State.judge (State.emit (State.setPhase { u with conveyor := {
            s.conveyor with state := .clamped, loads := (s.conveyor.loads + 1) % 2 ^ 32 } } id .clamped) 0x45#8
            (u32 id ++ u32 s.clock))))
        ∧ (made = false ∨ s.conveyor.state ≠ .clamping → exec (.clampClosedArrival made) s = .next u.judge))
    ∧ (s.unloadDue = true ↔ s.conveyor.state = .clamped ∧ s.conveyor.unloadRequest = true
      ∧ (s.head.state = .top ∨ s.head.state = .pickStroke ∨ s.head.state = .pickSpanWait ∨ s.head.state = .form
        ∨ s.head.state = .wait ∨ s.head.state = .discard)
      ∧ s.head.clinch = .retracted ∧ s.table.inFlight = false ∧ s.line = .running)
    ∧ (s.unloadDue = true →
        let u : State := { s with conveyor := { s.conveyor with
          state := .unclamping, unloadRequest := false
          outputs := { s.conveyor.outputs with
            clampClose := false, pinsUp := false, clampOpen := true, pinsDown := true } } }
        s.startUnload = u ∧ exec .unloadStart s = .next u.judge)
    ∧ (∀ made, let u : State := { s with pins := { s.pins with clampOpen := made } }
        (s.conveyor.state = .unclamping → made = true →
          exec (.clampOpenArrival made) s = .next (State.judge { u with conveyor := { s.conveyor with
            state := .tableWait, outputs := { s.conveyor.outputs with clampOpen := false, pinsDown := false } } }))
        ∧ (made = false ∨ s.conveyor.state ≠ .unclamping → exec (.clampOpenArrival made) s = .next u.judge))
    ∧ (s.exitRunDue = true ↔ s.conveyor.state = .tableWait ∧ s.table.atLoad = true ∧ s.line = .running)
    ∧ (s.exitRunDue = true →
        let u := State.startWatch { s with conveyor := { s.conveyor with
          state := .unloading false s.pins.exitSensor
          outputs := { s.conveyor.outputs with exitRun := true } } } .conveyor s.inputs.timeouts.conveyor
        s.startExitRun = u ∧ exec .exitRunStart s = .next u.judge)
    ∧ (∀ halted seen made, let u : State := { s with pins := { s.pins with exitSensor := made } }
        (s.conveyor.state = .unloading halted seen → made = true →
          exec (.exitSensorArrival made) s = .next (State.judge { u with conveyor := { s.conveyor with
            state := .unloading halted true } }))
        ∧ (s.conveyor.state = .unloading false true → made = false →
          exec (.exitSensorArrival made) s = .next (State.judge (State.finishActive (State.stopWatch { u with
            conveyor := { s.conveyor with
              state := .empty, board := none, unloads := (s.conveyor.unloads + 1) % 2 ^ 32
              outputs := { s.conveyor.outputs with exitRun := false } } } .conveyor))))
        ∧ ((∀ h e, s.conveyor.state ≠ .unloading h e) ∨ (made = false ∧ s.conveyor.state ≠ .unloading false true) →
          exec (.exitSensorArrival made) s = .next u.judge))
    ∧ (∀ b, s.boards.active = some b → s.finishActive = { s.emit 0x46#8 b.report with boards := { s.boards with
        active := s.boards.next.map fun n => { n with fenced := false, phase := .waiting }, next := none } })
    ∧ ∀ id phase, s.setPhase id phase = { s with boards := { s.boards with
        active := s.boards.active.map fun b => if b.id = id then { b with phase := phase } else b
        next := s.boards.next.map fun b => if b.id = id then { b with phase := phase } else b } }

/-! ## Inputs and the emergency stop -/

/-- The debounced inputs, SET_DEBOUNCE and the emergency stop with the component it loses, the measurement it abandons, the
conveyor run it halts, the watches that stop and those that go on, and the state that a head is halted from (R14, R28, R92,
R116, R136, R138, R153, R164, R166, R167, R169, R170). The order of arrivals that meet in one SET_DEBOUNCE is free (assumption log 8). That the CHANGEOVER of a station whose tape runs out
comes before the raise of TAPE_OUT is the model's choice (assumption log 38). The halted-from that a HALTED head keeps (assumption
log 21), the repeated arrivals and the raw changes to the same level that change nothing (assumption log 23), and the target
that a table axis keeps (assumption log 26) are the model's choice. -/
def Obligations.InputsAndEstop : Prop :=
  (∀ (tag : Byte) (tape air guard : Nat) (s : State), s.takesAtOnce →
      if tape ∈ [0, 10, 50, 200] ∧ air ∈ [100, 1000] ∧ guard ∈ [0, 10, 50] then
        let u : State := { s.countAccepted with
          inputs := { s.inputs with tapeTime := tape, airTime := air, guardTime := guard } }
        let reply : List Byte := 0x00#8 :: (u16 tape ++ u16 air ++ u16 guard)
        ∃ t : State, Answers (.setDebounce tag tape air guard) s t.judge 0x9F#8 tag reply
          ∧ (∀ i, t.slow i = if u.arrivalDue i = true then
              { s.slow i with state := if (s.slow i).raw then .made else .opened } else s.slow i)
          ∧ ((∀ i, u.arrivalDue i = false) → t = u)
          ∧ (∀ i, u.arrivalDue i = true → (∀ j, j ≠ i → u.arrivalDue j = false) → t = u.slowArrival i)
      else Answers (.setDebounce tag tape air guard) s s.countAccepted 0x9F#8 tag [0x03#8])
    ∧ (∀ (i : SlowInput) (s : State), s.arrivalDue i = true ↔
        (s.slow i).state ≠ (if (s.slow i).raw then .made else .opened)
          ∧ (match i with
            | .tape _ => s.inputs.tapeTime
            | .airOk => s.inputs.airTime
            | .guardClosed => s.inputs.guardTime) ≤ (s.slow i).since)
    ∧ (∀ (i : SlowInput) (made : Bool) (s : State),
        let u := s.setSlow i { s.slow i with raw := made, since := 0 }
        ((s.slow i).raw = made → exec (.rawInputChange i made) s = .next s.judge)
        ∧ ((s.slow i).raw ≠ made → u.arrivalDue i = false → exec (.rawInputChange i made) s = .next u.judge)
        ∧ ((s.slow i).raw ≠ made → u.arrivalDue i = true →
          exec (.rawInputChange i made) s = .next (u.slowArrival i).judge)
        ∧ (s.arrivalDue i = true → exec (.debouncedArrival i) s = .next (s.slowArrival i).judge))
    ∧ (∀ s : State,
        (∀ k : Fin 80,
          let u := (s.setSlow (.tape k) { s.slow (.tape k) with
            state := if (s.slow (.tape k)).raw then .made else .opened }).setStation k
              { s.station k with tape := (s.slow (.tape k)).raw }
          ((s.slow (.tape k)).raw = true ∨ ((s.station k).state ≠ .ready ∧ (s.station k).state ≠ .locking) →
            s.slowArrival (.tape k) = u)
          ∧ ((s.slow (.tape k)).raw = false → (s.station k).state = .ready ∨ (s.station k).state = .locking →
            s.slowArrival (.tape k) = (u.moveStation k .empty).raise .tapeOut .warn
              ⟨some k.val, none, none, none, (s.station k).owner, (s.station k).reel⟩))
        ∧ (∀ p ∈ [(SlowInput.airOk, Source.airLow), (SlowInput.guardClosed, Source.guardOpen)],
          let r := s.slow p.1
          let u := s.setSlow p.1 { r with state := if r.raw then .made else .opened }
          let v := u.setSource p.2 { s.source p.2 with condition := !r.raw }
          s.slowArrival p.1 = if r.raw then v else v.raise p.2 s.alarms.slots.guardAir ⟨none, none, none, none, none, 0⟩))
    ∧ (∀ s : State, (s.inputs.estop = true → exec .estopArrival s = .next s)
        ∧ (s.inputs.estop = false →
          let t := s.estopArrive
          exec .estopArrival s = .next t.judge
          ∧ t.line = .stopped ∧ t.inputs.estop = true
          ∧ (t.source .estop).pending = true ∧ (t.source .estop).cls = .stop ∧ (t.source .estop).condition = true
          ∧ t.chain.c = s.chain.c ∧ t.chain.pockets = s.chain.pockets ∧ t.chain.gateStroke = s.chain.gateStroke
          ∧ (s.chain.index = .inFlight → t.chain.index = .interrupted ∧ t.chain.indexDrive = false)
          ∧ (s.chain.index ≠ .inFlight → t.chain.index = s.chain.index)
          ∧ (∀ k, t.fireUnit k = ⟨false, (s.fireUnit k).dwell⟩)
          ∧ (∀ a, t.axis a = { s.axis a with
              drive := false, homed := false, state := .unhomed, commanded := (s.axis a).counter, parked := none
              slowing := false
              target := if a = .span then none else (s.axis a).target })
          ∧ t.table.purpose = none ∧ t.table.inFlight = false ∧ t.table.positioned = false ∧ t.table.kept = none
          ∧ t.table.loadRequest = s.table.loadRequest ∧ t.head.keptSpan = none ∧ t.head.spanMoving = false
          -- halted from: the state that the head left, and in HALTED the one it left first
          ∧ t.head.state = .halted (match s.head.state with
            | .top => .top | .pickStroke => .pickStroke | .pickSpanWait => .pickSpanWait | .form => .form | .wait => .wait
            | .drive _ _ => .drive | .clinch => .clinch | .rise => .rise | .discard => .discard
            | .halted src _ => src) true
          ∧ t.head.held = none ∧ t.head.unowned = false
          ∧ t.head.outputs = ⟨false, false, false, none, false, false, none, false⟩
          ∧ t.head.clinch = (match s.head.clinch with
            | .stroking d => .stopped (some d)
            | .retracting => .stopped none
            | c => c)
          -- the component in the jaws: HALTED from a drive or a clinch, with the mark of a clinch, and LOST otherwise
          ∧ (s.head.held = none → t.head.counts = s.head.counts)
          ∧ (∀ h, s.head.held = some h →
            let cause : EntryCause := match s.head.state with
              | .drive _ _ | .clinch => .halted
              | _ => .lost
            t.head.counts = { s.head.counts with failedOpen := (s.head.counts.failedOpen + 1) % 2 ^ 32 }
            ∧ (∀ e, s.entry? h.ref = some e → e.status = .inHead → t.entry? h.ref = some { e with
                status := .failedOpen, cause := some cause
                unclinched := e.unclinched || decide (s.head.state = .clinch) })
            ∧ (∀ e, s.entry? h.ref = some e → e.status ≠ .inHead → t.entry? h.ref = some e))
          ∧ (∀ ref, (∀ h, s.head.held = some h → h.ref ≠ ref) → t.entry? ref = s.entry? ref)
          ∧ (s.line ≠ .stopped → t.verifier = match s.verifier.flight with
            | none => s.verifier
            | some _ => { s.verifier with
                flight := none, contacts := false, range := none
                counts := { s.verifier.counts with abandoned := (s.verifier.counts.abandoned + 1) % 2 ^ 32 } })
          ∧ (s.line ≠ .stopped → t.conveyor = match s.conveyor.state with
            | .entryRun false reached => { s.conveyor with
                state := .entryRun true reached, outputs := { s.conveyor.outputs with entryRun := false } }
            | .unloading false seen => { s.conveyor with
                state := .unloading true seen, outputs := { s.conveyor.outputs with exitRun := false } }
            | _ => s.conveyor)
          -- the watches that stop where they run, without expiring, and those that go on
          ∧ (let halt (w : WatchId) (b : Prop) : Prop :=
              (b → (s.watch w).state = .running → t.watch w = ⟨.idle, 0⟩)
                ∧ (¬b ∨ (s.watch w).state ≠ .running → t.watch w = s.watch w)
            halt .chain (s.chain.index = .inFlight) ∧ halt .table True ∧ halt .head True ∧ halt .span True
            ∧ halt .conveyor (s.line ≠ .stopped
              ∧ ∃ b, s.conveyor.state = .entryRun false b ∨ s.conveyor.state = .unloading false b)
            ∧ halt .gate False ∧ ∀ w, t.boardWait? w = s.boardWait? w)
          ∧ (s.line = .stopped → t.verifier = s.verifier ∧ t.conveyor = s.conveyor)
          ∧ t.programs = s.programs ∧ t.stations.recs = s.stations.recs)
        ∧ exec .estopRelease s = .next ({ s with inputs := { s.inputs with estop := false } }.setSource .estop
            { s.source .estop with condition := false }))

/-! ## The watches -/

/-- The three requests to a watch (R172), and the eight expiries with their raises (R13, R18, R123, R131, R150, R160, R163,
R173, R174), and the head wait of the BOARD watch with the head's board wait (R145, R174). The details of GATE_JAM, of the
TABLE_TIMEOUT of a move and of BOARD_LATE are free (assumption log 7), and the state counts the free values drawn; that the
context of the TABLE_TIMEOUT of a move holds nothing else (assumption log 27), and the jam number 0 where no stroke or run
stands (assumption log 16), are the model's choice. -/
def Obligations.WatchExpiries : Prop :=
  ∀ s : State,
    (∀ w n,
      let cleared (t : State) : State :=
        if (s.watch w).state = .expired then t.emit 0x42#8 (u8 w.num ++ u32 s.clock ++ [0#8]) else t
      s.startWatch w n = cleared (s.setWatch w ⟨.running, n⟩) ∧ s.stopWatch w = cleared (s.setWatch w ⟨.idle, 0⟩)
      ∧ s.haltWatch w = if (s.watch w).state = .running then s.setWatch w ⟨.idle, 0⟩ else s)
    ∧ (s.boardWait? .transport = s.inputs.transportWait ∧ s.boardWait? .head = s.inputs.headWait)
    ∧ s.draw = { s with drawn := s.drawn + 1 }
    ∧ (∀ w, s.expiring w = true ↔ (s.watch w).state = .running ∧ (s.watch w).remaining = 0)
    ∧ (s.expiring .chain = true → exec .chainJam s = .next (State.judge
        ((s.setWatch .chain ⟨.expired, 0⟩).raise .chainJam .stop ⟨none, none, none, none, none, 0⟩)))
    ∧ (s.expiring .gate = true → exec .gateJam s = .next (State.judge (State.draw
        ((s.setWatch .gate ⟨.expired, 0⟩).raise .gateJam s.alarms.slots.transport
          ⟨none, s.chain.gateStroke.map Fin.val, none, none, none, s.freeDetail⟩))))
    ∧ (s.expiring .head = true →
        let n := match s.head.state with
          | .pickStroke | .pickSpanWait => 1
          | .form => 2
          | .drive _ _ => 3
          | .clinch => 4
          | .rise => 5
          | .discard => 6
          | _ => 0
        exec .headJam s = .next (State.judge ((s.setWatch .head ⟨.expired, 0⟩).raise .headJam .stop
          ⟨none, none, s.head.held.map (·.ref.board), s.head.held.map (·.ref.index),
            s.head.held.map (fun h => s.codeOf h.ref), n⟩)))
    ∧ (s.expiring .span = true →
        exec .spanTimeout s = .next (State.judge ((s.setWatch .span ⟨.expired, 0⟩).raise .spanTimeout .stop
          (match s.head.span.state with
          | .homing .park => ⟨none, none, none, none, none, 1⟩
          | .homing _ => ⟨none, none, none, none, none, 101⟩
          | _ => ⟨none, none, s.head.held.map (·.ref.board), s.head.held.map (·.ref.index), none, 0⟩))))
    ∧ (s.expiring .table = true →
        let homing (a : Axis) : Nat := if (s.axis a).isHoming = true then 1 else 0
        let seeking : Bool := [Axis.x, .y, .r].any fun a =>
          decide ((s.axis a).state = .homing .clear ∨ (s.axis a).state = .homing .search)
        let u := s.setWatch .table ⟨.expired, 0⟩
        exec .tableTimeout s = .next (State.judge
          (if homing .x + homing .y + homing .r ≠ 0 then
            u.raise .tableTimeout .stop ⟨none, none, none, none, none,
              homing .x + 2 * homing .y + 4 * homing .r + if seeking then 100 else 0⟩
          else (u.raise .tableTimeout .stop ⟨none, none, none, none, none, s.freeDetail⟩).draw)))
    ∧ (s.expiring .conveyor = true →
        let n := match s.conveyor.state with
          | .entryRun _ _ => 1
          | .unloading _ _ => 2
          | _ => 0
        exec .conveyorJam s = .next (State.judge ((s.setWatch .conveyor ⟨.expired, 0⟩).raise .conveyorJam
          s.alarms.slots.transport ⟨none, none, s.conveyor.board, none, none, n⟩)))
    ∧ (∀ r, s.inputs.transportWait = some r → r.expired = false → r.remaining = 0 →
        let u : State := { s with inputs := { s.inputs with transportWait := some { r with expired := true } } }
        exec (.boardLate .transport) s = .next (State.judge (State.draw (u.raise .boardLate s.alarms.slots.supply
          ⟨none, none, some r.board, r.index, none, s.freeDetail⟩))))
    ∧ (∀ r, s.inputs.headWait = some r → r.expired = false → r.remaining = 0 →
        let u : State := { s with inputs := { s.inputs with headWait := some { r with expired := true } } }
        exec (.boardLate .head) s = .next (State.judge (State.draw (u.raise .boardLate s.alarms.slots.supply
          ⟨none, none, some r.board, r.index, none, s.freeDetail⟩))))
    -- board wait of the head, and with it the beginning and the end of the head wait
    ∧ (let waits (ref : EntryRef) : Prop := s.head.state = .wait ∧ s.head.held.map (·.ref) = some ref
        ∧ ∀ b, s.board? ref.board = some b → b.phase ≠ .clamped
      (∀ ref, waits ref → s.head.boardWait = false → s.judgeBoardWait = { s with
        head := { s.head with boardWait := true }
        inputs := { s.inputs with headWait := some ⟨false, s.inputs.timeouts.board, ref.board, some ref.index⟩ } })
      ∧ (∀ ref, waits ref → s.head.boardWait = true → s.judgeBoardWait = s)
      ∧ ((∀ ref, ¬waits ref) → s.head.boardWait = false → s.judgeBoardWait = s)
      ∧ ((∀ ref, ¬waits ref) → s.head.boardWait = true →
        let u := if (s.inputs.headWait.any (·.expired)) = true then
          s.emit 0x42#8 (u8 6 ++ u32 s.clock ++ [1#8, 1#8]) else s
        s.judgeBoardWait = { u with
          head := { s.head with boardWait := false }, inputs := { s.inputs with headWait := none } }))

/-! ## Alarms and the line -/

/-- A raise (R180, R181, R183, R191), the level sources with their conditions (R169, R177), and the commands of the alarm unit:
SET_ALARM_CLASS, ACK_ALARMS, CLEAR_CAPTURE (R178, R182, R184). -/
def Obligations.AlarmCommands : Prop :=
  (∀ (src : Source) (cls : AlarmClass) (ctx : Context) (s : State),
      s.raise src .none ctx = s
      ∧ (cls ≠ .none →
        let serious : Bool := decide (cls = .hold ∨ cls = .stop)
        let r : SourceRec := { s.source src with
          pending := true, context := ctx, count := min 255 ((s.source src).count + 1)
          cls := if (s.source src).cls.num < cls.num then cls else (s.source src).cls }
        let capture : Capture :=
          if serious = false then s.alarms.capture
          else if s.alarms.capture.content = none then
            { s.alarms.capture with content := some ⟨src, cls, s.line, ctx, s.clock⟩ }
          else { s.alarms.capture with overflow := min 255 (s.alarms.capture.overflow + 1) }
        let u := s.setSource src r
        let v : State := { u with alarms := { u.alarms with capture := capture } }
        let w := v.emit 0x40#8 (u8 src.num ++ u8 cls.num ++ u8 r.count ++ ctx.bytes ++ u32 s.clock
          ++ yn (serious && s.alarms.capture.content.isNone))
        s.raise src cls ctx =
          if cls = .hold ∧ s.line = .running then w.setLine .holding (.alarm src)
          else if cls = .stop ∧ s.line ≠ .stopped then w.enterStopped (.alarm src)
          else w))
    ∧ (∀ (tag : Byte) (slot n : Nat) (s : State), s.takesAtOnce →
        (s.line = .running ∨ s.line = .holding →
          Answers (.setAlarmClass tag slot n) s s.countAccepted 0xA3#8 tag [0x04#8])
        ∧ (s.line ≠ .running → s.line ≠ .holding → 3 < slot ∨ 3 < n →
          Answers (.setAlarmClass tag slot n) s s.countAccepted 0xA3#8 tag [0x03#8])
        ∧ (∀ cls : AlarmClass, s.line ≠ .running → s.line ≠ .holding → n = cls.num → slot ≤ 3 →
          let old := s.alarms.slots
          let new : Slots := ⟨if slot = 0 then cls else old.guardAir, if slot = 1 then cls else old.transport,
            if slot = 2 then cls else old.supply, if slot = 3 then cls else old.insert⟩
          Answers (.setAlarmClass tag slot n) s { s.countAccepted with alarms := { s.alarms with slots := new } } 0xA3#8
            tag (0x00#8 :: (u8 new.guardAir.num ++ u8 new.transport.num ++ u8 new.supply.num ++ u8 new.insert.num))))
    ∧ (∀ (tag : Byte) (set : Nat) (s : State), s.takesAtOnce →
        (2 ^ 21 ≤ set → Answers (.ackAlarms tag set) s s.countAccepted 0xA4#8 tag [0x03#8])
        ∧ (set < 2 ^ 21 →
          let named (src : Source) : Bool := decide (set = 0) || set.testBit (src.num - 1)
          let left (src : Source) : Bool := src.level && s.levelCondition src
          ∃ (t : State) (cleared kept : Nat),
            Answers (.ackAlarms tag set) s { s.countAccepted with alarms := t.alarms } 0xA4#8 tag
              (0x00#8 :: (u32 cleared ++ u32 kept))
            ∧ t.alarms = { s.alarms with sources := t.alarms.sources }
            ∧ (∀ src, t.source src = if named src && (s.source src).pending && !left src then
                { s.source src with pending := false, cls := .none } else s.source src)
            ∧ cleared < 2 ^ 21 ∧ kept < 2 ^ 21
            ∧ ∀ src, (cleared.testBit (src.num - 1) = (named src && (s.source src).pending && !left src))
              ∧ (kept.testBit (src.num - 1) = (named src && (s.source src).pending && left src))))
    ∧ (∀ (tag : Byte) (s : State), s.takesAtOnce → Answers (.clearCapture tag) s
        { s.countAccepted with alarms := { s.alarms with capture := ⟨none, 0⟩ } } 0xA6#8 tag [0x00#8])
    -- the level sources, and the condition of each
    ∧ (∀ src : Source, src.level = true ↔ src = .estop ∨ src = .guardOpen ∨ src = .airLow)
    ∧ ∀ s : State, s.levelCondition .estop = s.inputs.estop
      ∧ (s.levelCondition .guardOpen = true ↔ (s.slow .guardClosed).state = .opened)
      ∧ (s.levelCondition .airLow = true ↔ (s.slow .airOk).state = .opened)
      ∧ ∀ src : Source, src.level = false → s.levelCondition src = false

/-- RUN, HOLD, STOP and RECOVER with their refusals (R188, R189, R190, R192), the measurement and the fires that RUN and HOLD
take where they are due (R90, R94, R110), the LINE_STATE report with its causes (R193), the notices of readiness (R187), the
entry into STOPPED with what it halts and the component it gives up (R116, R123, R135, R141, R152, R164, R190), with the state
that a head is halted from (R152), RESET among these by the head-top input as it stands at reset (R138), quiescence (R189), the index that recovery restarts (R14) and the end of recovery, by
its two parts (R192). The model's choices: the order of the parts of RUN, the kept move, the conveyor run, the
measurement, the fires (assumption log 11), and of HOLD, and that of the fires (assumption log 37); that the watch of a homing
halts at a stop (assumption log 12); how a span move in flight is told (assumption log 18); that a HALTED head stays as it is
at a further stop (assumption log 21); that an axis keeps its target (assumption log 26); and that a table with no move in
flight keeps its purpose at a STOP, one whose axis has left its window too (assumption log 35); that the drive of an axis whose
homing ends stays enabled (assumption log 40); and that the set which CONDITION_PRESENT carries in the reply of RECOVER is 4
bytes (assumption log 14). -/
def Obligations.LineCommands : Prop :=
  (∀ (tag : Byte) (s : State), s.takesAtOnce →
      let u := s.countAccepted
      let serious (src : Source) : Bool :=
        (s.source src).pending && decide ((s.source src).cls = .hold ∨ (s.source src).cls = .stop)
      let bars (src : Source) : Bool := decide (src = .estop ∨ src = .airLow) && s.levelCondition src
      (match s.line with
        | .ready | .held =>
          (∀ src, serious src = true → ∃ n, n < 2 ^ 21 ∧ (∀ o, n.testBit (o.num - 1) = serious o)
            ∧ Answers (.run tag) s u 0xA8#8 tag (0x10#8 :: u32 n))
          ∧ ((∀ src, serious src = false) →
            Answers (.run tag) s
              (u.setLine .running (.command .run)).restartKept.restartConveyor.startMeasurement.fireAll.judge 0xA8#8 tag
              [0x00#8])
        | _ => Answers (.run tag) s u 0xA8#8 tag [0x04#8])
      ∧ (s.line = .running → ∃ t : State, t = (u.setLine .holding (.command .hold)).startMeasurement.fireAll.judge
          ∧ Answers (.hold tag) s t 0xA9#8 tag (0x00#8 :: u8 t.line.num))
      ∧ (s.line ≠ .running → Answers (.hold tag) s u 0xA9#8 tag (0x00#8 :: u8 s.line.num))
      ∧ (s.line = .stopped → Answers (.stop tag) s u 0xAA#8 tag [0x04#8])
      ∧ (s.line ≠ .stopped → Answers (.stop tag) s (u.enterStopped (.command .stop)).judge 0xAA#8 tag [0x00#8])
      ∧ (s.line ≠ .stopped → Answers (.recover tag) s u 0xAB#8 tag [0x04#8])
      ∧ (s.line = .stopped → (∀ src, bars src = true → ∃ n, n < 2 ^ 21 ∧ (∀ o, n.testBit (o.num - 1) = bars o)
          ∧ Answers (.recover tag) s u 0xAB#8 tag (0x11#8 :: u32 n)))
      ∧ (s.line = .stopped → (∀ src, bars src = false) →
          let v := u.setLine .recovering (.command .recover)
          let w : State := { v with alarms := { v.alarms with line := { v.alarms.line with
            recovery := some ⟨false, false⟩ } } }
          Answers (.recover tag) s (w.recoverIndex.recoverHead).judge 0xAB#8 tag [0x00#8]))
    ∧ (∀ (new : LineState) (cause : LineCause) (s : State),
        s.setLine new cause = State.emit
          { s with alarms := { s.alarms with line := { s.alarms.line with state := new, recovery := none } } } 0x41#8
          (u8 new.num ++ u8 s.line.num ++ cause.bytes ++ u32 s.clock))
    ∧ ((∀ src : Source, (LineCause.alarm src).bytes = 1#8 :: 1#8 :: u8 src.num)
      ∧ LineCause.quiescent.bytes = [2, 0] ∧ LineCause.recoveryEnd.bytes = [3, 0]
      ∧ (LineCause.command .run).bytes = [0, 1, 0] ∧ (LineCause.command .hold).bytes = [0, 1, 1]
      ∧ (LineCause.command .stop).bytes = [0, 1, 2] ∧ (LineCause.command .recover).bytes = [0, 1, 3]
      ∧ (LineCause.readiness .program).bytes = [4, 1, 0] ∧ (LineCause.readiness .x).bytes = [4, 1, 1]
      ∧ (LineCause.readiness .y).bytes = [4, 1, 2] ∧ (LineCause.readiness .r).bytes = [4, 1, 3]
      ∧ (LineCause.readiness .span).bytes = [4, 1, 4] ∧ (LineCause.readiness .head).bytes = [4, 1, 5])
    -- the notices of readiness: judged where a field changes
    ∧ (∀ (b : Bool) (s : State),
      let line := s.alarms.line
      let noticed (f : ReadyField) (l : Line) : State :=
        let u : State := { s with alarms := { s.alarms with line := l } }
        let ready : Prop := l.programLoaded = true ∧ l.homedX = true ∧ l.homedY = true ∧ l.homedR = true
          ∧ l.homedSpan = true ∧ l.headHalted = false
        if s.line = .unready ∧ ready then u.setLine .ready (.readiness f)
        else if (s.line = .ready ∨ s.line = .held) ∧ ¬ready then u.setLine .unready (.readiness f)
        else u
      s.noticeProgram b = (if line.programLoaded = b then s else noticed .program { line with programLoaded := b })
      ∧ s.noticeHomed .x b = (if line.homedX = b then s else noticed .x { line with homedX := b })
      ∧ s.noticeHomed .y b = (if line.homedY = b then s else noticed .y { line with homedY := b })
      ∧ s.noticeHomed .r b = (if line.homedR = b then s else noticed .r { line with homedR := b })
      ∧ s.noticeHomed .span b = (if line.homedSpan = b then s else noticed .span { line with homedSpan := b })
      ∧ s.noticeHalted b = (if line.headHalted = b then s else noticed .head { line with headHalted := b }))
    ∧ (∀ (cause : LineCause) (s : State), ∃ t : State, s.enterStopped cause = t
        ∧ t.line = .stopped ∧ t.alarms.line.recovery = none ∧ t.chain = s.chain ∧ t.stations = s.stations
        ∧ t.programs = s.programs ∧ t.alarms.sources = s.alarms.sources ∧ t.alarms.capture = s.alarms.capture
        ∧ t.verifier.flight = none
        ∧ t.verifier.counts = (if s.verifier.flight.isSome = true then
            { s.verifier.counts with abandoned := (s.verifier.counts.abandoned + 1) % 2 ^ 32 } else s.verifier.counts)
        ∧ (∀ a, (t.axis a).counter = (s.axis a).counter ∧ (t.axis a).commanded = (s.axis a).commanded
          ∧ ((s.axis a).isHoming = true → (t.axis a).state = .unhomed ∧ (t.axis a).homed = false))
        ∧ (s.table.inFlight = true → t.table.kept = s.table.purpose ∧ t.table.purpose = none
          ∧ t.table.inFlight = false ∧ t.table.positioned = false)
        ∧ (s.table.inFlight = false → t.table.kept = s.table.kept ∧ t.table.purpose = s.table.purpose)
        -- the axes of a homing or a move that ends, and the watches that halt
        ∧ (∀ a, (s.axis a).isHoming = false → (t.axis a).homed = (s.axis a).homed ∧ (t.axis a).state =
            if (s.axis a).state = .settling ∧ (if a = .span then s.head.spanMoving = true else s.table.inFlight = true) then
              .idle else (s.axis a).state)
        ∧ (∀ a, (t.axis a).target = (s.axis a).target ∧ (t.axis a).drive = (s.axis a).drive)
        ∧ (let halt (w : WatchId) (b : Prop) : Prop :=
            (b → (s.watch w).state = .running → t.watch w = ⟨.idle, 0⟩)
              ∧ (¬b ∨ (s.watch w).state ≠ .running → t.watch w = s.watch w)
          halt .head (∀ src air, s.head.state ≠ .halted src air)
          ∧ halt .table (s.table.inFlight = true ∨ ∃ a, a ≠ .span ∧ (s.axis a).isHoming = true)
          ∧ halt .span True
          ∧ halt .conveyor (∃ b, s.conveyor.state = .entryRun false b ∨ s.conveyor.state = .unloading false b)
          ∧ halt .chain False ∧ halt .gate False)
        -- the component of a drive or a clinch, with the mark of a clinch
        ∧ (let cut : Prop := s.head.state = .clinch ∨ ∃ l r, s.head.state = .drive l r
          (∀ h, cut → s.head.held = some h →
            t.head.counts = { s.head.counts with failedOpen := (s.head.counts.failedOpen + 1) % 2 ^ 32 }
            ∧ (∀ e, s.entry? h.ref = some e → e.status = .inHead → t.entry? h.ref = some { e with
                status := .failedOpen, cause := some .halted
                unclinched := e.unclinched || decide (s.head.state = .clinch) })
            ∧ (∀ e, s.entry? h.ref = some e → e.status ≠ .inHead → t.entry? h.ref = some e)
            ∧ ∀ ref, ref ≠ h.ref → t.entry? ref = s.entry? ref)
          ∧ (¬cut ∨ s.head.held = none → t.head.counts = s.head.counts ∧ t.boards = s.boards))
        ∧ ((∀ src air, s.head.state ≠ .halted src air) → t.head.clinch = match s.head.clinch with
          | .stroking d => .stopped (some d)
          | c => c)
        ∧ (∀ src air, s.head.state = .halted src air → t.head.clinch = s.head.clinch ∧ t.head.outputs = s.head.outputs)
        ∧ t.head.spanMoving = false
        ∧ t.head.keptSpan = (if s.head.spanMoving = true then s.head.span.target else s.head.keptSpan)
        ∧ ((∀ src air, s.head.state ≠ .halted src air) →
          (∀ l r, s.head.state = .drive l r → t.head.state = .halted .drive false)
          ∧ (∀ p ∈ [(HeadState.top, HaltedFrom.top), (.pickStroke, .pickStroke), (.pickSpanWait, .pickSpanWait),
              (.form, .form), (.wait, .wait), (.clinch, .clinch), (.rise, .rise), (.discard, .discard)],
            s.head.state = p.1 → t.head.state = .halted p.2 false)
          ∧ t.head.outputs = ⟨false, s.head.outputs.jawAir, false, none, false, false, none, s.head.outputs.retract⟩)
        ∧ (∀ src air, s.head.state = .halted src air → t.head.state = .halted src air)
        ∧ (t.head.held = match s.head.state with
          | .drive _ _ | .clinch => none
          | _ => s.head.held)
        ∧ t.conveyor = (match s.conveyor.state with
          | .entryRun _ r => { s.conveyor with
              state := .entryRun true r
              outputs := if s.conveyor.state = .entryRun false r then
                { s.conveyor.outputs with entryRun := false } else s.conveyor.outputs }
          | .unloading _ e => { s.conveyor with
              state := .unloading true e
              outputs := if s.conveyor.state = .unloading false e then
                { s.conveyor.outputs with exitRun := false } else s.conveyor.outputs }
          | _ => s.conveyor))
    ∧ (∀ s : State,
        (s.quiescent = true ↔ s.chain.index = .idle ∧ s.holdFire = false ∧ s.holdVerify = false ∧ s.holdGate = false
          ∧ (s.head.state = .top ∨ s.head.state = .wait) ∧ s.head.spanMoving = false ∧ s.head.span.isHoming = false
          ∧ s.table.inFlight = false ∧ (∀ a, a ≠ .span → (s.axis a).isHoming = false)
          ∧ s.conveyor.state ≠ .clamping ∧ s.conveyor.state ≠ .unclamping
          ∧ (∀ b, s.conveyor.state ≠ .entryRun false b ∧ s.conveyor.state ≠ .unloading false b))
        ∧ (s.line = .holding → s.quiescent = true → s.judgeQuiescent = s.setLine .held .quiescent)
        ∧ (s.line ≠ .holding ∨ s.quiescent = false → s.judgeQuiescent = s)
        -- the parts of recovery
        ∧ (s.line ≠ .recovering ∨ s.alarms.line.recovery = none → s.judgeRecovery = s)
        ∧ (∀ p, s.line = .recovering → s.alarms.line.recovery = some p →
          let q : RecoveryParts := ⟨p.chain || decide (s.chain.index = .idle), p.head || s.headRecovered⟩
          let u : State := { s with alarms := { s.alarms with line := { s.alarms.line with recovery := some q } } }
          s.judgeRecovery = if q.chain = true ∧ q.head = true then
              u.setLine (if s.alarms.line.ready then .held else .unready) .recoveryEnd
            else u)
        ∧ (s.alarms.line.ready = true ↔ s.alarms.line.programLoaded = true ∧ s.alarms.line.homedX = true
          ∧ s.alarms.line.homedY = true ∧ s.alarms.line.homedR = true ∧ s.alarms.line.homedSpan = true
          ∧ s.alarms.line.headHalted = false)
        -- the restart of an interrupted index
        ∧ (s.chain.index = .interrupted → s.recoverIndex = State.startWatch
          { s with chain := { s.chain with index := .inFlight, indexDrive := true } } .chain s.inputs.timeouts.chain)
        ∧ (s.chain.index ≠ .interrupted → s.recoverIndex = s))
    -- the head after reset, from the head-top input as it stands
    ∧ (∀ headTop : Bool, (Head.afterReset headTop).state = if headTop then .top else .halted .reset false)
    ∧ (∀ s : State, s.restartConveyor =
        match s.conveyor.state with
        | .entryRun true true => State.stopWatch { s with conveyor := { s.conveyor with
            state := .clamping
            outputs := { s.conveyor.outputs with entryRun := false, pinsUp := true, clampClose := true } } } .conveyor
        | .entryRun true false => State.startWatch { s with conveyor := { s.conveyor with
            state := .entryRun false false, outputs := { s.conveyor.outputs with entryRun := true } } } .conveyor
            s.inputs.timeouts.conveyor
        | .unloading true seen =>
          if seen = true ∧ s.pins.exitSensor = false then State.finishActive (State.stopWatch { s with
            conveyor := { s.conveyor with
              state := .empty, board := none, unloads := (s.conveyor.unloads + 1) % 2 ^ 32
              outputs := { s.conveyor.outputs with exitRun := false } } } .conveyor)
          else State.startWatch { s with conveyor := { s.conveyor with
            state := .unloading false seen, outputs := { s.conveyor.outputs with exitRun := true } } } .conveyor
            s.inputs.timeouts.conveyor
        | _ => s)

end
end

