-- ==== Sys2Proof/Laws/State.lean ====
section
/-! SUPPORT. What each update of the state leaves as it was, field by field, and what a table, a watch and an axis read
after an update. Every lemma is a `simp` lemma, so that no later proof unfolds a record update. -/

namespace Sys2Proof.Machine

@[simp] theorem State.setPocket_clock (s : State) (p : Fin 128) (k : Pocket) : (s.setPocket p k).clock = s.clock := rfl
@[simp] theorem State.setPocket_pins (s : State) (p : Fin 128) (k : Pocket) : (s.setPocket p k).pins = s.pins := rfl
@[simp] theorem State.setPocket_stations (s : State) (p : Fin 128) (k : Pocket) : (s.setPocket p k).stations = s.stations := rfl
@[simp] theorem State.setPocket_programs (s : State) (p : Fin 128) (k : Pocket) : (s.setPocket p k).programs = s.programs := rfl
@[simp] theorem State.setPocket_boards (s : State) (p : Fin 128) (k : Pocket) : (s.setPocket p k).boards = s.boards := rfl
@[simp] theorem State.setPocket_starved (s : State) (p : Fin 128) (k : Pocket) : (s.setPocket p k).starved = s.starved := rfl
@[simp] theorem State.setPocket_verifier (s : State) (p : Fin 128) (k : Pocket) : (s.setPocket p k).verifier = s.verifier := rfl
@[simp] theorem State.setPocket_table (s : State) (p : Fin 128) (k : Pocket) : (s.setPocket p k).table = s.table := rfl
@[simp] theorem State.setPocket_head (s : State) (p : Fin 128) (k : Pocket) : (s.setPocket p k).head = s.head := rfl
@[simp] theorem State.setPocket_conveyor (s : State) (p : Fin 128) (k : Pocket) : (s.setPocket p k).conveyor = s.conveyor := rfl
@[simp] theorem State.setPocket_inputs (s : State) (p : Fin 128) (k : Pocket) : (s.setPocket p k).inputs = s.inputs := rfl
@[simp] theorem State.setPocket_alarms (s : State) (p : Fin 128) (k : Pocket) : (s.setPocket p k).alarms = s.alarms := rfl
@[simp] theorem State.setPocket_link (s : State) (p : Fin 128) (k : Pocket) : (s.setPocket p k).link = s.link := rfl
@[simp] theorem State.setPocket_drawn (s : State) (p : Fin 128) (k : Pocket) : (s.setPocket p k).drawn = s.drawn := rfl
@[simp] theorem State.setPocket_pending (s : State) (p : Fin 128) (k : Pocket) : (s.setPocket p k).pending = s.pending := rfl

@[simp] theorem State.setStation_clock (s : State) (k : Fin 80) (r : Station) : (s.setStation k r).clock = s.clock := rfl
@[simp] theorem State.setStation_pins (s : State) (k : Fin 80) (r : Station) : (s.setStation k r).pins = s.pins := rfl
@[simp] theorem State.setStation_chain (s : State) (k : Fin 80) (r : Station) : (s.setStation k r).chain = s.chain := rfl
@[simp] theorem State.setStation_programs (s : State) (k : Fin 80) (r : Station) : (s.setStation k r).programs = s.programs := rfl
@[simp] theorem State.setStation_boards (s : State) (k : Fin 80) (r : Station) : (s.setStation k r).boards = s.boards := rfl
@[simp] theorem State.setStation_starved (s : State) (k : Fin 80) (r : Station) : (s.setStation k r).starved = s.starved := rfl
@[simp] theorem State.setStation_verifier (s : State) (k : Fin 80) (r : Station) : (s.setStation k r).verifier = s.verifier := rfl
@[simp] theorem State.setStation_table (s : State) (k : Fin 80) (r : Station) : (s.setStation k r).table = s.table := rfl
@[simp] theorem State.setStation_head (s : State) (k : Fin 80) (r : Station) : (s.setStation k r).head = s.head := rfl
@[simp] theorem State.setStation_conveyor (s : State) (k : Fin 80) (r : Station) : (s.setStation k r).conveyor = s.conveyor := rfl
@[simp] theorem State.setStation_inputs (s : State) (k : Fin 80) (r : Station) : (s.setStation k r).inputs = s.inputs := rfl
@[simp] theorem State.setStation_alarms (s : State) (k : Fin 80) (r : Station) : (s.setStation k r).alarms = s.alarms := rfl
@[simp] theorem State.setStation_link (s : State) (k : Fin 80) (r : Station) : (s.setStation k r).link = s.link := rfl
@[simp] theorem State.setStation_drawn (s : State) (k : Fin 80) (r : Station) : (s.setStation k r).drawn = s.drawn := rfl
@[simp] theorem State.setStation_pending (s : State) (k : Fin 80) (r : Station) : (s.setStation k r).pending = s.pending := rfl

@[simp] theorem State.setFireUnit_clock (s : State) (k : Fin 80) (f : FireUnit) : (s.setFireUnit k f).clock = s.clock := rfl
@[simp] theorem State.setFireUnit_pins (s : State) (k : Fin 80) (f : FireUnit) : (s.setFireUnit k f).pins = s.pins := rfl
@[simp] theorem State.setFireUnit_chain (s : State) (k : Fin 80) (f : FireUnit) : (s.setFireUnit k f).chain = s.chain := rfl
@[simp] theorem State.setFireUnit_programs (s : State) (k : Fin 80) (f : FireUnit) : (s.setFireUnit k f).programs = s.programs := rfl
@[simp] theorem State.setFireUnit_boards (s : State) (k : Fin 80) (f : FireUnit) : (s.setFireUnit k f).boards = s.boards := rfl
@[simp] theorem State.setFireUnit_starved (s : State) (k : Fin 80) (f : FireUnit) : (s.setFireUnit k f).starved = s.starved := rfl
@[simp] theorem State.setFireUnit_verifier (s : State) (k : Fin 80) (f : FireUnit) : (s.setFireUnit k f).verifier = s.verifier := rfl
@[simp] theorem State.setFireUnit_table (s : State) (k : Fin 80) (f : FireUnit) : (s.setFireUnit k f).table = s.table := rfl
@[simp] theorem State.setFireUnit_head (s : State) (k : Fin 80) (f : FireUnit) : (s.setFireUnit k f).head = s.head := rfl
@[simp] theorem State.setFireUnit_conveyor (s : State) (k : Fin 80) (f : FireUnit) : (s.setFireUnit k f).conveyor = s.conveyor := rfl
@[simp] theorem State.setFireUnit_inputs (s : State) (k : Fin 80) (f : FireUnit) : (s.setFireUnit k f).inputs = s.inputs := rfl
@[simp] theorem State.setFireUnit_alarms (s : State) (k : Fin 80) (f : FireUnit) : (s.setFireUnit k f).alarms = s.alarms := rfl
@[simp] theorem State.setFireUnit_link (s : State) (k : Fin 80) (f : FireUnit) : (s.setFireUnit k f).link = s.link := rfl
@[simp] theorem State.setFireUnit_drawn (s : State) (k : Fin 80) (f : FireUnit) : (s.setFireUnit k f).drawn = s.drawn := rfl
@[simp] theorem State.setFireUnit_pending (s : State) (k : Fin 80) (f : FireUnit) : (s.setFireUnit k f).pending = s.pending := rfl

@[simp] theorem State.setSource_clock (s : State) (src : Source) (r : SourceRec) : (s.setSource src r).clock = s.clock := rfl
@[simp] theorem State.setSource_pins (s : State) (src : Source) (r : SourceRec) : (s.setSource src r).pins = s.pins := rfl
@[simp] theorem State.setSource_chain (s : State) (src : Source) (r : SourceRec) : (s.setSource src r).chain = s.chain := rfl
@[simp] theorem State.setSource_stations (s : State) (src : Source) (r : SourceRec) : (s.setSource src r).stations = s.stations := rfl
@[simp] theorem State.setSource_programs (s : State) (src : Source) (r : SourceRec) : (s.setSource src r).programs = s.programs := rfl
@[simp] theorem State.setSource_boards (s : State) (src : Source) (r : SourceRec) : (s.setSource src r).boards = s.boards := rfl
@[simp] theorem State.setSource_starved (s : State) (src : Source) (r : SourceRec) : (s.setSource src r).starved = s.starved := rfl
@[simp] theorem State.setSource_verifier (s : State) (src : Source) (r : SourceRec) : (s.setSource src r).verifier = s.verifier := rfl
@[simp] theorem State.setSource_table (s : State) (src : Source) (r : SourceRec) : (s.setSource src r).table = s.table := rfl
@[simp] theorem State.setSource_head (s : State) (src : Source) (r : SourceRec) : (s.setSource src r).head = s.head := rfl
@[simp] theorem State.setSource_conveyor (s : State) (src : Source) (r : SourceRec) : (s.setSource src r).conveyor = s.conveyor := rfl
@[simp] theorem State.setSource_inputs (s : State) (src : Source) (r : SourceRec) : (s.setSource src r).inputs = s.inputs := rfl
@[simp] theorem State.setSource_link (s : State) (src : Source) (r : SourceRec) : (s.setSource src r).link = s.link := rfl
@[simp] theorem State.setSource_drawn (s : State) (src : Source) (r : SourceRec) : (s.setSource src r).drawn = s.drawn := rfl
@[simp] theorem State.setSource_pending (s : State) (src : Source) (r : SourceRec) : (s.setSource src r).pending = s.pending := rfl

@[simp] theorem State.setAxis_clock (s : State) (a : Axis) (v : AxisRec) : (s.setAxis a v).clock = s.clock := by cases a <;> rfl
@[simp] theorem State.setAxis_pins (s : State) (a : Axis) (v : AxisRec) : (s.setAxis a v).pins = s.pins := by cases a <;> rfl
@[simp] theorem State.setAxis_chain (s : State) (a : Axis) (v : AxisRec) : (s.setAxis a v).chain = s.chain := by cases a <;> rfl
@[simp] theorem State.setAxis_stations (s : State) (a : Axis) (v : AxisRec) : (s.setAxis a v).stations = s.stations := by cases a <;> rfl
@[simp] theorem State.setAxis_programs (s : State) (a : Axis) (v : AxisRec) : (s.setAxis a v).programs = s.programs := by cases a <;> rfl
@[simp] theorem State.setAxis_boards (s : State) (a : Axis) (v : AxisRec) : (s.setAxis a v).boards = s.boards := by cases a <;> rfl
@[simp] theorem State.setAxis_starved (s : State) (a : Axis) (v : AxisRec) : (s.setAxis a v).starved = s.starved := by cases a <;> rfl
@[simp] theorem State.setAxis_verifier (s : State) (a : Axis) (v : AxisRec) : (s.setAxis a v).verifier = s.verifier := by cases a <;> rfl
@[simp] theorem State.setAxis_conveyor (s : State) (a : Axis) (v : AxisRec) : (s.setAxis a v).conveyor = s.conveyor := by cases a <;> rfl
@[simp] theorem State.setAxis_inputs (s : State) (a : Axis) (v : AxisRec) : (s.setAxis a v).inputs = s.inputs := by cases a <;> rfl
@[simp] theorem State.setAxis_alarms (s : State) (a : Axis) (v : AxisRec) : (s.setAxis a v).alarms = s.alarms := by cases a <;> rfl
@[simp] theorem State.setAxis_link (s : State) (a : Axis) (v : AxisRec) : (s.setAxis a v).link = s.link := by cases a <;> rfl
@[simp] theorem State.setAxis_drawn (s : State) (a : Axis) (v : AxisRec) : (s.setAxis a v).drawn = s.drawn := by cases a <;> rfl
@[simp] theorem State.setAxis_pending (s : State) (a : Axis) (v : AxisRec) : (s.setAxis a v).pending = s.pending := by cases a <;> rfl

@[simp] theorem State.setWatch_clock (s : State) (w : WatchId) (v : Watch) : (s.setWatch w v).clock = s.clock := rfl
@[simp] theorem State.setWatch_pins (s : State) (w : WatchId) (v : Watch) : (s.setWatch w v).pins = s.pins := rfl
@[simp] theorem State.setWatch_chain (s : State) (w : WatchId) (v : Watch) : (s.setWatch w v).chain = s.chain := rfl
@[simp] theorem State.setWatch_stations (s : State) (w : WatchId) (v : Watch) : (s.setWatch w v).stations = s.stations := rfl
@[simp] theorem State.setWatch_programs (s : State) (w : WatchId) (v : Watch) : (s.setWatch w v).programs = s.programs := rfl
@[simp] theorem State.setWatch_boards (s : State) (w : WatchId) (v : Watch) : (s.setWatch w v).boards = s.boards := rfl
@[simp] theorem State.setWatch_starved (s : State) (w : WatchId) (v : Watch) : (s.setWatch w v).starved = s.starved := rfl
@[simp] theorem State.setWatch_verifier (s : State) (w : WatchId) (v : Watch) : (s.setWatch w v).verifier = s.verifier := rfl
@[simp] theorem State.setWatch_table (s : State) (w : WatchId) (v : Watch) : (s.setWatch w v).table = s.table := rfl
@[simp] theorem State.setWatch_head (s : State) (w : WatchId) (v : Watch) : (s.setWatch w v).head = s.head := rfl
@[simp] theorem State.setWatch_conveyor (s : State) (w : WatchId) (v : Watch) : (s.setWatch w v).conveyor = s.conveyor := rfl
@[simp] theorem State.setWatch_alarms (s : State) (w : WatchId) (v : Watch) : (s.setWatch w v).alarms = s.alarms := rfl
@[simp] theorem State.setWatch_link (s : State) (w : WatchId) (v : Watch) : (s.setWatch w v).link = s.link := rfl
@[simp] theorem State.setWatch_drawn (s : State) (w : WatchId) (v : Watch) : (s.setWatch w v).drawn = s.drawn := rfl
@[simp] theorem State.setWatch_pending (s : State) (w : WatchId) (v : Watch) : (s.setWatch w v).pending = s.pending := rfl

@[simp] theorem State.draw_clock (s : State) : (s.draw).clock = s.clock := rfl
@[simp] theorem State.draw_pins (s : State) : (s.draw).pins = s.pins := rfl
@[simp] theorem State.draw_chain (s : State) : (s.draw).chain = s.chain := rfl
@[simp] theorem State.draw_stations (s : State) : (s.draw).stations = s.stations := rfl
@[simp] theorem State.draw_programs (s : State) : (s.draw).programs = s.programs := rfl
@[simp] theorem State.draw_boards (s : State) : (s.draw).boards = s.boards := rfl
@[simp] theorem State.draw_starved (s : State) : (s.draw).starved = s.starved := rfl
@[simp] theorem State.draw_verifier (s : State) : (s.draw).verifier = s.verifier := rfl
@[simp] theorem State.draw_table (s : State) : (s.draw).table = s.table := rfl
@[simp] theorem State.draw_head (s : State) : (s.draw).head = s.head := rfl
@[simp] theorem State.draw_conveyor (s : State) : (s.draw).conveyor = s.conveyor := rfl
@[simp] theorem State.draw_inputs (s : State) : (s.draw).inputs = s.inputs := rfl
@[simp] theorem State.draw_alarms (s : State) : (s.draw).alarms = s.alarms := rfl
@[simp] theorem State.draw_link (s : State) : (s.draw).link = s.link := rfl
@[simp] theorem State.draw_pending (s : State) : (s.draw).pending = s.pending := rfl

@[simp] theorem State.emit_clock (s : State) (k : Byte) (p : List Byte) : (s.emit k p).clock = s.clock := by unfold State.emit; split <;> rfl
@[simp] theorem State.emit_pins (s : State) (k : Byte) (p : List Byte) : (s.emit k p).pins = s.pins := by unfold State.emit; split <;> rfl
@[simp] theorem State.emit_chain (s : State) (k : Byte) (p : List Byte) : (s.emit k p).chain = s.chain := by unfold State.emit; split <;> rfl
@[simp] theorem State.emit_stations (s : State) (k : Byte) (p : List Byte) : (s.emit k p).stations = s.stations := by unfold State.emit; split <;> rfl
@[simp] theorem State.emit_programs (s : State) (k : Byte) (p : List Byte) : (s.emit k p).programs = s.programs := by unfold State.emit; split <;> rfl
@[simp] theorem State.emit_boards (s : State) (k : Byte) (p : List Byte) : (s.emit k p).boards = s.boards := by unfold State.emit; split <;> rfl
@[simp] theorem State.emit_starved (s : State) (k : Byte) (p : List Byte) : (s.emit k p).starved = s.starved := by unfold State.emit; split <;> rfl
@[simp] theorem State.emit_verifier (s : State) (k : Byte) (p : List Byte) : (s.emit k p).verifier = s.verifier := by unfold State.emit; split <;> rfl
@[simp] theorem State.emit_table (s : State) (k : Byte) (p : List Byte) : (s.emit k p).table = s.table := by unfold State.emit; split <;> rfl
@[simp] theorem State.emit_head (s : State) (k : Byte) (p : List Byte) : (s.emit k p).head = s.head := by unfold State.emit; split <;> rfl
@[simp] theorem State.emit_conveyor (s : State) (k : Byte) (p : List Byte) : (s.emit k p).conveyor = s.conveyor := by unfold State.emit; split <;> rfl
@[simp] theorem State.emit_inputs (s : State) (k : Byte) (p : List Byte) : (s.emit k p).inputs = s.inputs := by unfold State.emit; split <;> rfl
@[simp] theorem State.emit_alarms (s : State) (k : Byte) (p : List Byte) : (s.emit k p).alarms = s.alarms := by unfold State.emit; split <;> rfl
@[simp] theorem State.emit_drawn (s : State) (k : Byte) (p : List Byte) : (s.emit k p).drawn = s.drawn := by unfold State.emit; split <;> rfl
@[simp] theorem State.emit_pending (s : State) (k : Byte) (p : List Byte) : (s.emit k p).pending = s.pending := by unfold State.emit; split <;> rfl

@[simp] theorem State.reply_clock (s : State) (k t : Byte) (p : List Byte) : (s.reply k t p).clock = s.clock := rfl
@[simp] theorem State.reply_pins (s : State) (k t : Byte) (p : List Byte) : (s.reply k t p).pins = s.pins := rfl
@[simp] theorem State.reply_chain (s : State) (k t : Byte) (p : List Byte) : (s.reply k t p).chain = s.chain := rfl
@[simp] theorem State.reply_stations (s : State) (k t : Byte) (p : List Byte) : (s.reply k t p).stations = s.stations := rfl
@[simp] theorem State.reply_programs (s : State) (k t : Byte) (p : List Byte) : (s.reply k t p).programs = s.programs := rfl
@[simp] theorem State.reply_boards (s : State) (k t : Byte) (p : List Byte) : (s.reply k t p).boards = s.boards := rfl
@[simp] theorem State.reply_starved (s : State) (k t : Byte) (p : List Byte) : (s.reply k t p).starved = s.starved := rfl
@[simp] theorem State.reply_verifier (s : State) (k t : Byte) (p : List Byte) : (s.reply k t p).verifier = s.verifier := rfl
@[simp] theorem State.reply_table (s : State) (k t : Byte) (p : List Byte) : (s.reply k t p).table = s.table := rfl
@[simp] theorem State.reply_head (s : State) (k t : Byte) (p : List Byte) : (s.reply k t p).head = s.head := rfl
@[simp] theorem State.reply_conveyor (s : State) (k t : Byte) (p : List Byte) : (s.reply k t p).conveyor = s.conveyor := rfl
@[simp] theorem State.reply_inputs (s : State) (k t : Byte) (p : List Byte) : (s.reply k t p).inputs = s.inputs := rfl
@[simp] theorem State.reply_alarms (s : State) (k t : Byte) (p : List Byte) : (s.reply k t p).alarms = s.alarms := rfl
@[simp] theorem State.reply_drawn (s : State) (k t : Byte) (p : List Byte) : (s.reply k t p).drawn = s.drawn := rfl
@[simp] theorem State.reply_pending (s : State) (k t : Byte) (p : List Byte) : (s.reply k t p).pending = s.pending := rfl

@[simp] theorem State.modifyBoard_clock (s : State) (id : Nat) (f : Board → Board) : (s.modifyBoard id f).clock = s.clock := rfl
@[simp] theorem State.modifyBoard_pins (s : State) (id : Nat) (f : Board → Board) : (s.modifyBoard id f).pins = s.pins := rfl
@[simp] theorem State.modifyBoard_chain (s : State) (id : Nat) (f : Board → Board) : (s.modifyBoard id f).chain = s.chain := rfl
@[simp] theorem State.modifyBoard_stations (s : State) (id : Nat) (f : Board → Board) : (s.modifyBoard id f).stations = s.stations := rfl
@[simp] theorem State.modifyBoard_programs (s : State) (id : Nat) (f : Board → Board) : (s.modifyBoard id f).programs = s.programs := rfl
@[simp] theorem State.modifyBoard_starved (s : State) (id : Nat) (f : Board → Board) : (s.modifyBoard id f).starved = s.starved := rfl
@[simp] theorem State.modifyBoard_verifier (s : State) (id : Nat) (f : Board → Board) : (s.modifyBoard id f).verifier = s.verifier := rfl
@[simp] theorem State.modifyBoard_table (s : State) (id : Nat) (f : Board → Board) : (s.modifyBoard id f).table = s.table := rfl
@[simp] theorem State.modifyBoard_head (s : State) (id : Nat) (f : Board → Board) : (s.modifyBoard id f).head = s.head := rfl
@[simp] theorem State.modifyBoard_conveyor (s : State) (id : Nat) (f : Board → Board) : (s.modifyBoard id f).conveyor = s.conveyor := rfl
@[simp] theorem State.modifyBoard_inputs (s : State) (id : Nat) (f : Board → Board) : (s.modifyBoard id f).inputs = s.inputs := rfl
@[simp] theorem State.modifyBoard_alarms (s : State) (id : Nat) (f : Board → Board) : (s.modifyBoard id f).alarms = s.alarms := rfl
@[simp] theorem State.modifyBoard_link (s : State) (id : Nat) (f : Board → Board) : (s.modifyBoard id f).link = s.link := rfl
@[simp] theorem State.modifyBoard_drawn (s : State) (id : Nat) (f : Board → Board) : (s.modifyBoard id f).drawn = s.drawn := rfl
@[simp] theorem State.modifyBoard_pending (s : State) (id : Nat) (f : Board → Board) : (s.modifyBoard id f).pending = s.pending := rfl

@[simp] theorem State.modifyEntry_clock (s : State) (ref : EntryRef) (f : Entry → Entry) : (s.modifyEntry ref f).clock = s.clock := rfl
@[simp] theorem State.modifyEntry_pins (s : State) (ref : EntryRef) (f : Entry → Entry) : (s.modifyEntry ref f).pins = s.pins := rfl
@[simp] theorem State.modifyEntry_chain (s : State) (ref : EntryRef) (f : Entry → Entry) : (s.modifyEntry ref f).chain = s.chain := rfl
@[simp] theorem State.modifyEntry_stations (s : State) (ref : EntryRef) (f : Entry → Entry) : (s.modifyEntry ref f).stations = s.stations := rfl
@[simp] theorem State.modifyEntry_programs (s : State) (ref : EntryRef) (f : Entry → Entry) : (s.modifyEntry ref f).programs = s.programs := rfl
@[simp] theorem State.modifyEntry_starved (s : State) (ref : EntryRef) (f : Entry → Entry) : (s.modifyEntry ref f).starved = s.starved := rfl
@[simp] theorem State.modifyEntry_verifier (s : State) (ref : EntryRef) (f : Entry → Entry) : (s.modifyEntry ref f).verifier = s.verifier := rfl
@[simp] theorem State.modifyEntry_table (s : State) (ref : EntryRef) (f : Entry → Entry) : (s.modifyEntry ref f).table = s.table := rfl
@[simp] theorem State.modifyEntry_head (s : State) (ref : EntryRef) (f : Entry → Entry) : (s.modifyEntry ref f).head = s.head := rfl
@[simp] theorem State.modifyEntry_conveyor (s : State) (ref : EntryRef) (f : Entry → Entry) : (s.modifyEntry ref f).conveyor = s.conveyor := rfl
@[simp] theorem State.modifyEntry_inputs (s : State) (ref : EntryRef) (f : Entry → Entry) : (s.modifyEntry ref f).inputs = s.inputs := rfl
@[simp] theorem State.modifyEntry_alarms (s : State) (ref : EntryRef) (f : Entry → Entry) : (s.modifyEntry ref f).alarms = s.alarms := rfl
@[simp] theorem State.modifyEntry_link (s : State) (ref : EntryRef) (f : Entry → Entry) : (s.modifyEntry ref f).link = s.link := rfl
@[simp] theorem State.modifyEntry_drawn (s : State) (ref : EntryRef) (f : Entry → Entry) : (s.modifyEntry ref f).drawn = s.drawn := rfl
@[simp] theorem State.modifyEntry_pending (s : State) (ref : EntryRef) (f : Entry → Entry) : (s.modifyEntry ref f).pending = s.pending := rfl

@[simp] theorem State.setPhase_clock (s : State) (id : Nat) (p : Phase) : (s.setPhase id p).clock = s.clock := rfl
@[simp] theorem State.setPhase_pins (s : State) (id : Nat) (p : Phase) : (s.setPhase id p).pins = s.pins := rfl
@[simp] theorem State.setPhase_chain (s : State) (id : Nat) (p : Phase) : (s.setPhase id p).chain = s.chain := rfl
@[simp] theorem State.setPhase_stations (s : State) (id : Nat) (p : Phase) : (s.setPhase id p).stations = s.stations := rfl
@[simp] theorem State.setPhase_programs (s : State) (id : Nat) (p : Phase) : (s.setPhase id p).programs = s.programs := rfl
@[simp] theorem State.setPhase_starved (s : State) (id : Nat) (p : Phase) : (s.setPhase id p).starved = s.starved := rfl
@[simp] theorem State.setPhase_verifier (s : State) (id : Nat) (p : Phase) : (s.setPhase id p).verifier = s.verifier := rfl
@[simp] theorem State.setPhase_table (s : State) (id : Nat) (p : Phase) : (s.setPhase id p).table = s.table := rfl
@[simp] theorem State.setPhase_head (s : State) (id : Nat) (p : Phase) : (s.setPhase id p).head = s.head := rfl
@[simp] theorem State.setPhase_conveyor (s : State) (id : Nat) (p : Phase) : (s.setPhase id p).conveyor = s.conveyor := rfl
@[simp] theorem State.setPhase_inputs (s : State) (id : Nat) (p : Phase) : (s.setPhase id p).inputs = s.inputs := rfl
@[simp] theorem State.setPhase_alarms (s : State) (id : Nat) (p : Phase) : (s.setPhase id p).alarms = s.alarms := rfl
@[simp] theorem State.setPhase_link (s : State) (id : Nat) (p : Phase) : (s.setPhase id p).link = s.link := rfl
@[simp] theorem State.setPhase_drawn (s : State) (id : Nat) (p : Phase) : (s.setPhase id p).drawn = s.drawn := rfl
@[simp] theorem State.setPhase_pending (s : State) (id : Nat) (p : Phase) : (s.setPhase id p).pending = s.pending := rfl

@[simp] theorem State.countAccepted_clock (s : State) : (s.countAccepted).clock = s.clock := rfl
@[simp] theorem State.countAccepted_pins (s : State) : (s.countAccepted).pins = s.pins := rfl
@[simp] theorem State.countAccepted_chain (s : State) : (s.countAccepted).chain = s.chain := rfl
@[simp] theorem State.countAccepted_stations (s : State) : (s.countAccepted).stations = s.stations := rfl
@[simp] theorem State.countAccepted_programs (s : State) : (s.countAccepted).programs = s.programs := rfl
@[simp] theorem State.countAccepted_boards (s : State) : (s.countAccepted).boards = s.boards := rfl
@[simp] theorem State.countAccepted_starved (s : State) : (s.countAccepted).starved = s.starved := rfl
@[simp] theorem State.countAccepted_verifier (s : State) : (s.countAccepted).verifier = s.verifier := rfl
@[simp] theorem State.countAccepted_table (s : State) : (s.countAccepted).table = s.table := rfl
@[simp] theorem State.countAccepted_head (s : State) : (s.countAccepted).head = s.head := rfl
@[simp] theorem State.countAccepted_conveyor (s : State) : (s.countAccepted).conveyor = s.conveyor := rfl
@[simp] theorem State.countAccepted_inputs (s : State) : (s.countAccepted).inputs = s.inputs := rfl
@[simp] theorem State.countAccepted_alarms (s : State) : (s.countAccepted).alarms = s.alarms := rfl
@[simp] theorem State.countAccepted_drawn (s : State) : (s.countAccepted).drawn = s.drawn := rfl
@[simp] theorem State.countAccepted_pending (s : State) : (s.countAccepted).pending = s.pending := rfl

@[simp] theorem State.setCondition_clock (s : State) (src : Source) (b : Bool) : (s.setCondition src b).clock = s.clock := rfl
@[simp] theorem State.setCondition_pins (s : State) (src : Source) (b : Bool) : (s.setCondition src b).pins = s.pins := rfl
@[simp] theorem State.setCondition_chain (s : State) (src : Source) (b : Bool) : (s.setCondition src b).chain = s.chain := rfl
@[simp] theorem State.setCondition_stations (s : State) (src : Source) (b : Bool) : (s.setCondition src b).stations = s.stations := rfl
@[simp] theorem State.setCondition_programs (s : State) (src : Source) (b : Bool) : (s.setCondition src b).programs = s.programs := rfl
@[simp] theorem State.setCondition_boards (s : State) (src : Source) (b : Bool) : (s.setCondition src b).boards = s.boards := rfl
@[simp] theorem State.setCondition_starved (s : State) (src : Source) (b : Bool) : (s.setCondition src b).starved = s.starved := rfl
@[simp] theorem State.setCondition_verifier (s : State) (src : Source) (b : Bool) : (s.setCondition src b).verifier = s.verifier := rfl
@[simp] theorem State.setCondition_table (s : State) (src : Source) (b : Bool) : (s.setCondition src b).table = s.table := rfl
@[simp] theorem State.setCondition_head (s : State) (src : Source) (b : Bool) : (s.setCondition src b).head = s.head := rfl
@[simp] theorem State.setCondition_conveyor (s : State) (src : Source) (b : Bool) : (s.setCondition src b).conveyor = s.conveyor := rfl
@[simp] theorem State.setCondition_inputs (s : State) (src : Source) (b : Bool) : (s.setCondition src b).inputs = s.inputs := rfl
@[simp] theorem State.setCondition_link (s : State) (src : Source) (b : Bool) : (s.setCondition src b).link = s.link := rfl
@[simp] theorem State.setCondition_drawn (s : State) (src : Source) (b : Bool) : (s.setCondition src b).drawn = s.drawn := rfl
@[simp] theorem State.setCondition_pending (s : State) (src : Source) (b : Bool) : (s.setCondition src b).pending = s.pending := rfl

@[simp] theorem State.setSlow_clock (s : State) (i : SlowInput) (r : SlowRec) : (s.setSlow i r).clock = s.clock := by cases i <;> rfl
@[simp] theorem State.setSlow_pins (s : State) (i : SlowInput) (r : SlowRec) : (s.setSlow i r).pins = s.pins := by cases i <;> rfl
@[simp] theorem State.setSlow_chain (s : State) (i : SlowInput) (r : SlowRec) : (s.setSlow i r).chain = s.chain := by cases i <;> rfl
@[simp] theorem State.setSlow_stations (s : State) (i : SlowInput) (r : SlowRec) : (s.setSlow i r).stations = s.stations := by cases i <;> rfl
@[simp] theorem State.setSlow_programs (s : State) (i : SlowInput) (r : SlowRec) : (s.setSlow i r).programs = s.programs := by cases i <;> rfl
@[simp] theorem State.setSlow_boards (s : State) (i : SlowInput) (r : SlowRec) : (s.setSlow i r).boards = s.boards := by cases i <;> rfl
@[simp] theorem State.setSlow_starved (s : State) (i : SlowInput) (r : SlowRec) : (s.setSlow i r).starved = s.starved := by cases i <;> rfl
@[simp] theorem State.setSlow_verifier (s : State) (i : SlowInput) (r : SlowRec) : (s.setSlow i r).verifier = s.verifier := by cases i <;> rfl
@[simp] theorem State.setSlow_table (s : State) (i : SlowInput) (r : SlowRec) : (s.setSlow i r).table = s.table := by cases i <;> rfl
@[simp] theorem State.setSlow_head (s : State) (i : SlowInput) (r : SlowRec) : (s.setSlow i r).head = s.head := by cases i <;> rfl
@[simp] theorem State.setSlow_conveyor (s : State) (i : SlowInput) (r : SlowRec) : (s.setSlow i r).conveyor = s.conveyor := by cases i <;> rfl
@[simp] theorem State.setSlow_alarms (s : State) (i : SlowInput) (r : SlowRec) : (s.setSlow i r).alarms = s.alarms := by cases i <;> rfl
@[simp] theorem State.setSlow_link (s : State) (i : SlowInput) (r : SlowRec) : (s.setSlow i r).link = s.link := by cases i <;> rfl
@[simp] theorem State.setSlow_drawn (s : State) (i : SlowInput) (r : SlowRec) : (s.setSlow i r).drawn = s.drawn := by cases i <;> rfl
@[simp] theorem State.setSlow_pending (s : State) (i : SlowInput) (r : SlowRec) : (s.setSlow i r).pending = s.pending := by cases i <;> rfl

@[simp] theorem State.reportCleared_clock (s : State) (n : Nat) (w : Option BoardWait) : (s.reportCleared n w).clock = s.clock := by simp [State.reportCleared]
@[simp] theorem State.reportCleared_pins (s : State) (n : Nat) (w : Option BoardWait) : (s.reportCleared n w).pins = s.pins := by simp [State.reportCleared]
@[simp] theorem State.reportCleared_chain (s : State) (n : Nat) (w : Option BoardWait) : (s.reportCleared n w).chain = s.chain := by simp [State.reportCleared]
@[simp] theorem State.reportCleared_stations (s : State) (n : Nat) (w : Option BoardWait) : (s.reportCleared n w).stations = s.stations := by simp [State.reportCleared]
@[simp] theorem State.reportCleared_programs (s : State) (n : Nat) (w : Option BoardWait) : (s.reportCleared n w).programs = s.programs := by simp [State.reportCleared]
@[simp] theorem State.reportCleared_boards (s : State) (n : Nat) (w : Option BoardWait) : (s.reportCleared n w).boards = s.boards := by simp [State.reportCleared]
@[simp] theorem State.reportCleared_starved (s : State) (n : Nat) (w : Option BoardWait) : (s.reportCleared n w).starved = s.starved := by simp [State.reportCleared]
@[simp] theorem State.reportCleared_verifier (s : State) (n : Nat) (w : Option BoardWait) : (s.reportCleared n w).verifier = s.verifier := by simp [State.reportCleared]
@[simp] theorem State.reportCleared_table (s : State) (n : Nat) (w : Option BoardWait) : (s.reportCleared n w).table = s.table := by simp [State.reportCleared]
@[simp] theorem State.reportCleared_head (s : State) (n : Nat) (w : Option BoardWait) : (s.reportCleared n w).head = s.head := by simp [State.reportCleared]
@[simp] theorem State.reportCleared_conveyor (s : State) (n : Nat) (w : Option BoardWait) : (s.reportCleared n w).conveyor = s.conveyor := by simp [State.reportCleared]
@[simp] theorem State.reportCleared_inputs (s : State) (n : Nat) (w : Option BoardWait) : (s.reportCleared n w).inputs = s.inputs := by simp [State.reportCleared]
@[simp] theorem State.reportCleared_alarms (s : State) (n : Nat) (w : Option BoardWait) : (s.reportCleared n w).alarms = s.alarms := by simp [State.reportCleared]
@[simp] theorem State.reportCleared_drawn (s : State) (n : Nat) (w : Option BoardWait) : (s.reportCleared n w).drawn = s.drawn := by simp [State.reportCleared]
@[simp] theorem State.reportCleared_pending (s : State) (n : Nat) (w : Option BoardWait) : (s.reportCleared n w).pending = s.pending := by simp [State.reportCleared]

@[simp] theorem State.clearExpired_clock (s : State) (w : WatchId) : (s.clearExpired w).clock = s.clock := by unfold State.clearExpired; split <;> simp
@[simp] theorem State.clearExpired_pins (s : State) (w : WatchId) : (s.clearExpired w).pins = s.pins := by unfold State.clearExpired; split <;> simp
@[simp] theorem State.clearExpired_chain (s : State) (w : WatchId) : (s.clearExpired w).chain = s.chain := by unfold State.clearExpired; split <;> simp
@[simp] theorem State.clearExpired_stations (s : State) (w : WatchId) : (s.clearExpired w).stations = s.stations := by unfold State.clearExpired; split <;> simp
@[simp] theorem State.clearExpired_programs (s : State) (w : WatchId) : (s.clearExpired w).programs = s.programs := by unfold State.clearExpired; split <;> simp
@[simp] theorem State.clearExpired_boards (s : State) (w : WatchId) : (s.clearExpired w).boards = s.boards := by unfold State.clearExpired; split <;> simp
@[simp] theorem State.clearExpired_starved (s : State) (w : WatchId) : (s.clearExpired w).starved = s.starved := by unfold State.clearExpired; split <;> simp
@[simp] theorem State.clearExpired_verifier (s : State) (w : WatchId) : (s.clearExpired w).verifier = s.verifier := by unfold State.clearExpired; split <;> simp
@[simp] theorem State.clearExpired_table (s : State) (w : WatchId) : (s.clearExpired w).table = s.table := by unfold State.clearExpired; split <;> simp
@[simp] theorem State.clearExpired_head (s : State) (w : WatchId) : (s.clearExpired w).head = s.head := by unfold State.clearExpired; split <;> simp
@[simp] theorem State.clearExpired_conveyor (s : State) (w : WatchId) : (s.clearExpired w).conveyor = s.conveyor := by unfold State.clearExpired; split <;> simp
@[simp] theorem State.clearExpired_inputs (s : State) (w : WatchId) : (s.clearExpired w).inputs = s.inputs := by unfold State.clearExpired; split <;> simp
@[simp] theorem State.clearExpired_alarms (s : State) (w : WatchId) : (s.clearExpired w).alarms = s.alarms := by unfold State.clearExpired; split <;> simp
@[simp] theorem State.clearExpired_drawn (s : State) (w : WatchId) : (s.clearExpired w).drawn = s.drawn := by unfold State.clearExpired; split <;> simp
@[simp] theorem State.clearExpired_pending (s : State) (w : WatchId) : (s.clearExpired w).pending = s.pending := by unfold State.clearExpired; split <;> simp

@[simp] theorem State.startWatch_clock (s : State) (w : WatchId) (n : Nat) : (s.startWatch w n).clock = s.clock := by simp [State.startWatch]
@[simp] theorem State.startWatch_pins (s : State) (w : WatchId) (n : Nat) : (s.startWatch w n).pins = s.pins := by simp [State.startWatch]
@[simp] theorem State.startWatch_chain (s : State) (w : WatchId) (n : Nat) : (s.startWatch w n).chain = s.chain := by simp [State.startWatch]
@[simp] theorem State.startWatch_stations (s : State) (w : WatchId) (n : Nat) : (s.startWatch w n).stations = s.stations := by simp [State.startWatch]
@[simp] theorem State.startWatch_programs (s : State) (w : WatchId) (n : Nat) : (s.startWatch w n).programs = s.programs := by simp [State.startWatch]
@[simp] theorem State.startWatch_boards (s : State) (w : WatchId) (n : Nat) : (s.startWatch w n).boards = s.boards := by simp [State.startWatch]
@[simp] theorem State.startWatch_starved (s : State) (w : WatchId) (n : Nat) : (s.startWatch w n).starved = s.starved := by simp [State.startWatch]
@[simp] theorem State.startWatch_verifier (s : State) (w : WatchId) (n : Nat) : (s.startWatch w n).verifier = s.verifier := by simp [State.startWatch]
@[simp] theorem State.startWatch_table (s : State) (w : WatchId) (n : Nat) : (s.startWatch w n).table = s.table := by simp [State.startWatch]
@[simp] theorem State.startWatch_head (s : State) (w : WatchId) (n : Nat) : (s.startWatch w n).head = s.head := by simp [State.startWatch]
@[simp] theorem State.startWatch_conveyor (s : State) (w : WatchId) (n : Nat) : (s.startWatch w n).conveyor = s.conveyor := by simp [State.startWatch]
@[simp] theorem State.startWatch_alarms (s : State) (w : WatchId) (n : Nat) : (s.startWatch w n).alarms = s.alarms := by simp [State.startWatch]
@[simp] theorem State.startWatch_drawn (s : State) (w : WatchId) (n : Nat) : (s.startWatch w n).drawn = s.drawn := by simp [State.startWatch]
@[simp] theorem State.startWatch_pending (s : State) (w : WatchId) (n : Nat) : (s.startWatch w n).pending = s.pending := by simp [State.startWatch]

@[simp] theorem State.stopWatch_clock (s : State) (w : WatchId) : (s.stopWatch w).clock = s.clock := by simp [State.stopWatch]
@[simp] theorem State.stopWatch_pins (s : State) (w : WatchId) : (s.stopWatch w).pins = s.pins := by simp [State.stopWatch]
@[simp] theorem State.stopWatch_chain (s : State) (w : WatchId) : (s.stopWatch w).chain = s.chain := by simp [State.stopWatch]
@[simp] theorem State.stopWatch_stations (s : State) (w : WatchId) : (s.stopWatch w).stations = s.stations := by simp [State.stopWatch]
@[simp] theorem State.stopWatch_programs (s : State) (w : WatchId) : (s.stopWatch w).programs = s.programs := by simp [State.stopWatch]
@[simp] theorem State.stopWatch_boards (s : State) (w : WatchId) : (s.stopWatch w).boards = s.boards := by simp [State.stopWatch]
@[simp] theorem State.stopWatch_starved (s : State) (w : WatchId) : (s.stopWatch w).starved = s.starved := by simp [State.stopWatch]
@[simp] theorem State.stopWatch_verifier (s : State) (w : WatchId) : (s.stopWatch w).verifier = s.verifier := by simp [State.stopWatch]
@[simp] theorem State.stopWatch_table (s : State) (w : WatchId) : (s.stopWatch w).table = s.table := by simp [State.stopWatch]
@[simp] theorem State.stopWatch_head (s : State) (w : WatchId) : (s.stopWatch w).head = s.head := by simp [State.stopWatch]
@[simp] theorem State.stopWatch_conveyor (s : State) (w : WatchId) : (s.stopWatch w).conveyor = s.conveyor := by simp [State.stopWatch]
@[simp] theorem State.stopWatch_alarms (s : State) (w : WatchId) : (s.stopWatch w).alarms = s.alarms := by simp [State.stopWatch]
@[simp] theorem State.stopWatch_drawn (s : State) (w : WatchId) : (s.stopWatch w).drawn = s.drawn := by simp [State.stopWatch]
@[simp] theorem State.stopWatch_pending (s : State) (w : WatchId) : (s.stopWatch w).pending = s.pending := by simp [State.stopWatch]

@[simp] theorem State.haltWatch_clock (s : State) (w : WatchId) : (s.haltWatch w).clock = s.clock := by unfold State.haltWatch; split <;> rfl
@[simp] theorem State.haltWatch_pins (s : State) (w : WatchId) : (s.haltWatch w).pins = s.pins := by unfold State.haltWatch; split <;> rfl
@[simp] theorem State.haltWatch_chain (s : State) (w : WatchId) : (s.haltWatch w).chain = s.chain := by unfold State.haltWatch; split <;> rfl
@[simp] theorem State.haltWatch_stations (s : State) (w : WatchId) : (s.haltWatch w).stations = s.stations := by unfold State.haltWatch; split <;> rfl
@[simp] theorem State.haltWatch_programs (s : State) (w : WatchId) : (s.haltWatch w).programs = s.programs := by unfold State.haltWatch; split <;> rfl
@[simp] theorem State.haltWatch_boards (s : State) (w : WatchId) : (s.haltWatch w).boards = s.boards := by unfold State.haltWatch; split <;> rfl
@[simp] theorem State.haltWatch_starved (s : State) (w : WatchId) : (s.haltWatch w).starved = s.starved := by unfold State.haltWatch; split <;> rfl
@[simp] theorem State.haltWatch_verifier (s : State) (w : WatchId) : (s.haltWatch w).verifier = s.verifier := by unfold State.haltWatch; split <;> rfl
@[simp] theorem State.haltWatch_table (s : State) (w : WatchId) : (s.haltWatch w).table = s.table := by unfold State.haltWatch; split <;> rfl
@[simp] theorem State.haltWatch_head (s : State) (w : WatchId) : (s.haltWatch w).head = s.head := by unfold State.haltWatch; split <;> rfl
@[simp] theorem State.haltWatch_conveyor (s : State) (w : WatchId) : (s.haltWatch w).conveyor = s.conveyor := by unfold State.haltWatch; split <;> rfl
@[simp] theorem State.haltWatch_alarms (s : State) (w : WatchId) : (s.haltWatch w).alarms = s.alarms := by unfold State.haltWatch; split <;> rfl
@[simp] theorem State.haltWatch_link (s : State) (w : WatchId) : (s.haltWatch w).link = s.link := by unfold State.haltWatch; split <;> rfl
@[simp] theorem State.haltWatch_drawn (s : State) (w : WatchId) : (s.haltWatch w).drawn = s.drawn := by unfold State.haltWatch; split <;> rfl
@[simp] theorem State.haltWatch_pending (s : State) (w : WatchId) : (s.haltWatch w).pending = s.pending := by unfold State.haltWatch; split <;> rfl

@[simp] theorem State.expire_clock (s : State) (w : WatchId) : (s.expire w).clock = s.clock := rfl
@[simp] theorem State.expire_pins (s : State) (w : WatchId) : (s.expire w).pins = s.pins := rfl
@[simp] theorem State.expire_chain (s : State) (w : WatchId) : (s.expire w).chain = s.chain := rfl
@[simp] theorem State.expire_stations (s : State) (w : WatchId) : (s.expire w).stations = s.stations := rfl
@[simp] theorem State.expire_programs (s : State) (w : WatchId) : (s.expire w).programs = s.programs := rfl
@[simp] theorem State.expire_boards (s : State) (w : WatchId) : (s.expire w).boards = s.boards := rfl
@[simp] theorem State.expire_starved (s : State) (w : WatchId) : (s.expire w).starved = s.starved := rfl
@[simp] theorem State.expire_verifier (s : State) (w : WatchId) : (s.expire w).verifier = s.verifier := rfl
@[simp] theorem State.expire_table (s : State) (w : WatchId) : (s.expire w).table = s.table := rfl
@[simp] theorem State.expire_head (s : State) (w : WatchId) : (s.expire w).head = s.head := rfl
@[simp] theorem State.expire_conveyor (s : State) (w : WatchId) : (s.expire w).conveyor = s.conveyor := rfl
@[simp] theorem State.expire_alarms (s : State) (w : WatchId) : (s.expire w).alarms = s.alarms := rfl
@[simp] theorem State.expire_link (s : State) (w : WatchId) : (s.expire w).link = s.link := rfl
@[simp] theorem State.expire_drawn (s : State) (w : WatchId) : (s.expire w).drawn = s.drawn := rfl
@[simp] theorem State.expire_pending (s : State) (w : WatchId) : (s.expire w).pending = s.pending := rfl

/-! ## Reading after writing -/

@[simp] theorem vget_vset_same {α : Type} {n : Nat} (v : Vector α n) (i : Fin n) (a : α) : vget (vset v i a) i = a := by
  simp [vget, vset]

theorem vget_vset_other {α : Type} {n : Nat} (v : Vector α n) (i j : Fin n) (a : α) (h : j ≠ i) :
    vget (vset v i a) j = vget v j := by
  have : i.val ≠ j.val := fun e => h (Fin.ext e.symm)
  simp [vget, vset, this]

theorem vget_vset {α : Type} {n : Nat} (v : Vector α n) (i j : Fin n) (a : α) :
    vget (vset v i a) j = if j = i then a else vget v j := by
  split
  · next h => subst h; simp
  · next h => exact vget_vset_other v i j a h

@[simp] theorem vget_vmap {α : Type} {n : Nat} (f : α → α) (v : Vector α n) (i : Fin n) :
    vget (vmap f v) i = f (vget v i) := by
  simp [vget, vmap]

@[simp] theorem vget_replicate {α : Type} {n : Nat} (a : α) (i : Fin n) : vget (Vector.replicate n a) i = a := by
  simp [vget]

@[simp] theorem State.pocket_setPocket (s : State) (p : Fin 128) (k : Pocket) : (s.setPocket p k).pocket p = k := by
  simp [State.pocket, State.setPocket]

theorem State.pocket_setPocket_other (s : State) (p q : Fin 128) (k : Pocket) (h : q ≠ p) :
    (s.setPocket p k).pocket q = s.pocket q := by
  simp [State.pocket, State.setPocket, vget_vset_other _ _ _ _ h]

@[simp] theorem State.setPocket_c (s : State) (p : Fin 128) (k : Pocket) :
    (s.setPocket p k).chain.c = s.chain.c := rfl

@[simp] theorem State.station_setStation (s : State) (k : Fin 80) (r : Station) :
    (s.setStation k r).station k = r := by
  simp [State.station, State.setStation]

theorem State.station_setStation_other (s : State) (k j : Fin 80) (r : Station) (h : j ≠ k) :
    (s.setStation k r).station j = s.station j := by
  simp [State.station, State.setStation, vget_vset_other _ _ _ _ h]

@[simp] theorem State.setStation_fires (s : State) (k : Fin 80) (r : Station) :
    (s.setStation k r).stations.fires = s.stations.fires := rfl

@[simp] theorem State.setStation_codes (s : State) (k : Fin 80) (r : Station) :
    (s.setStation k r).stations.codes = s.stations.codes := rfl

@[simp] theorem State.fireUnit_setFireUnit (s : State) (k : Fin 80) (f : FireUnit) :
    (s.setFireUnit k f).fireUnit k = f := by
  simp [State.fireUnit, State.setFireUnit]

@[simp] theorem State.setFireUnit_recs (s : State) (k : Fin 80) (f : FireUnit) :
    (s.setFireUnit k f).stations.recs = s.stations.recs := rfl

@[simp] theorem State.source_setSource (s : State) (src : Source) (r : SourceRec) :
    (s.setSource src r).source src = r := by
  simp [State.source, State.setSource]

theorem Source.idx_injective {a b : Source} (h : a.idx = b.idx) : a = b := by
  cases a <;> cases b <;> first | rfl | exact absurd h (by decide)

theorem State.source_setSource_other (s : State) (src other : Source) (r : SourceRec) (h : other ≠ src) :
    (s.setSource src r).source other = s.source other := by
  have : other.idx ≠ src.idx := fun e => h (Source.idx_injective e)
  simp [State.source, State.setSource, vget_vset_other _ _ _ _ this]

@[simp] theorem State.axis_setAxis (s : State) (a : Axis) (v : AxisRec) : (s.setAxis a v).axis a = v := by
  cases a <;> rfl

theorem State.axis_setAxis_other (s : State) (a b : Axis) (v : AxisRec) (h : b ≠ a) :
    (s.setAxis a v).axis b = s.axis b := by
  cases a <;> cases b <;> first | rfl | exact absurd rfl h

@[simp] theorem State.watch_setWatch (s : State) (w : WatchId) (v : Watch) : (s.setWatch w v).watch w = v := by
  cases w <;> rfl

theorem State.watch_setWatch_other (s : State) (w x : WatchId) (v : Watch) (h : x ≠ w) :
    (s.setWatch w v).watch x = s.watch x := by
  cases w <;> cases x <;> first | rfl | exact absurd rfl h

/-! ## The watch requests (R172) -/

@[simp] theorem State.watch_startWatch (s : State) (w : WatchId) (n : Nat) :
    (s.startWatch w n).watch w = { state := .running, remaining := n } := by
  simp [State.startWatch]

@[simp] theorem State.watch_stopWatch (s : State) (w : WatchId) :
    (s.stopWatch w).watch w = { state := .idle, remaining := 0 } := by
  simp [State.stopWatch]

theorem State.watch_haltWatch (s : State) (w : WatchId) :
    (s.haltWatch w).watch w = if (s.watch w).state = .running then { state := .idle, remaining := 0 } else s.watch w := by
  unfold State.haltWatch; split <;> simp

/-! ## The output queue (R200) -/

theorem State.emit_output (s : State) (k : Byte) (p : List Byte) :
    (s.emit k p).link.output =
      if s.link.output.length ≤ 14 then s.link.output ++ [{ kind := k, tag := 0, payload := p }] else s.link.output := by
  unfold State.emit; split <;> rfl

@[simp] theorem State.reply_output (s : State) (k t : Byte) (p : List Byte) :
    (s.reply k t p).link.output = s.link.output ++ [{ kind := k + 0x80#8, tag := t, payload := p }] := rfl

/-! ## The span move, jaw air and the cut-confirm inputs -/

@[simp] theorem State.startSpan_head (s : State) (t : Int) :
    (s.startSpan t).head = { s.head with
      keptSpan := none, spanMoving := true
      span := { s.head.span with target := some t, state := if s.head.span.commanded = t then .settling else .moving } } := by
  simp [State.startSpan]

@[simp] theorem State.spanArrived_head (s : State) :
    s.spanArrived.head = { s.head with span := { s.head.span with state := .inPosition }, spanMoving := false } := by
  simp [State.spanArrived]

@[simp] theorem State.jawAirOn_head (s : State) :
    s.jawAirOn.head = { s.head with outputs := { s.head.outputs with jawAir := true } } := rfl
@[simp] theorem State.jawAirOn_table (s : State) : s.jawAirOn.table = s.table := rfl
@[simp] theorem State.jawAirOn_chain (s : State) : s.jawAirOn.chain = s.chain := rfl
@[simp] theorem State.jawAirOn_alarms (s : State) : s.jawAirOn.alarms = s.alarms := rfl
@[simp] theorem State.jawAirOn_link (s : State) : s.jawAirOn.link = s.link := rfl
@[simp] theorem State.jawAirOn_inputs (s : State) : s.jawAirOn.inputs = s.inputs := rfl

@[simp] theorem State.sampleCut_pins (s : State) :
    s.sampleCut.pins = { s.pins with
      cutLeft := (Config.cutConfirm s.drawn).1, cutRight := (Config.cutConfirm s.drawn).2 } := rfl
@[simp] theorem State.sampleCut_drawn (s : State) : s.sampleCut.drawn = s.drawn + 1 := rfl
@[simp] theorem State.sampleCut_head (s : State) : s.sampleCut.head = s.head := rfl
@[simp] theorem State.sampleCut_link (s : State) : s.sampleCut.link = s.link := rfl

@[simp] theorem State.setAxis_spanMoving (s : State) (a : Axis) (v : AxisRec) :
    (s.setAxis a v).head.spanMoving = s.head.spanMoving := by cases a <;> rfl

/-! ## What a withdrawal and an orphan request do to the pockets (R5, R8) -/

@[simp] theorem State.lowerPending_pocket (s : State) (k : Fin 80) (q : Fin 128) :
    (s.lowerPending k).pocket q = s.pocket q := rfl

theorem State.pocket_setPocket_eq (s : State) (p q : Fin 128) (k : Pocket) :
    (s.setPocket p k).pocket q = if q = p then k else s.pocket q := by
  by_cases h : q = p
  · subst h; simp
  · simp [State.pocket_setPocket_other s p q k h, h]

theorem State.withdraw_pocket (s : State) (p q : Fin 128) :
    (s.withdraw p).pocket q = if q = p ∧ (s.pocket p).state = .assigned then Pocket.emptied else s.pocket q := by
  unfold State.withdraw
  by_cases h : (s.pocket p).state = .assigned
  · simp only [h, if_true, and_true]
    split <;> simp [State.pocket_setPocket_eq]
  · simp [h]

theorem State.orphan_pocket (s : State) (p q : Fin 128) (cause : PocketCause) :
    (s.orphan p cause).pocket q =
      if q = p ∧ ((s.pocket p).state = .fired ∨ (s.pocket p).state = .loaded ∨ (s.pocket p).state = .verified) then
        (s.pocket p).orphaned cause
      else s.pocket q := by
  unfold State.orphan
  cases h : (s.pocket p).state <;> simp [h, State.pocket_setPocket_eq]

end Sys2Proof.Machine
end

