-- ==== Sys2Proof/Laws/Frame.lean ====
section
/-! SUPPORT. `Steady s t`: what no raise, no change of the line, no notice, no watch request and no judgement at the end
of an event touches. One lemma for each shared operation says that it keeps all of it; `judge_steady` closes an event.
The fires of one event and the steps of an axis are said once as well. -/

namespace Sys2Proof.Machine

/-- `t` agrees with `s` wherever the shared operations of an event do not reach. -/
structure Steady (s t : State) : Prop where
  clock : t.clock = s.clock
  pins : t.pins = s.pins
  chain : t.chain = s.chain
  stations : t.stations = s.stations
  programs : t.programs = s.programs
  drawn : t.drawn = s.drawn
  pending : t.pending = s.pending
  geometry : t.table.geometry = s.table.geometry
  counter : ∀ a, (t.axis a).counter = (s.axis a).counter
  commanded : ∀ a, (t.axis a).commanded = (s.axis a).commanded
  drive : ∀ a, (t.axis a).drive = (s.axis a).drive
  slow : ∀ i, t.slow i = s.slow i
  times : t.inputs.tapeTime = s.inputs.tapeTime ∧ t.inputs.airTime = s.inputs.airTime
    ∧ t.inputs.guardTime = s.inputs.guardTime
  estop : t.inputs.estop = s.inputs.estop
  timeouts : t.inputs.timeouts = s.inputs.timeouts
  slots : t.alarms.slots = s.alarms.slots
  cause : t.alarms.line.cause = s.alarms.line.cause
  threshold : t.verifier.threshold = s.verifier.threshold
  last : t.verifier.last = s.verifier.last
  receiver : t.link.receiver = s.link.receiver
  input : t.link.input = s.link.input
  baud : t.link.baud = s.link.baud
  resetAccepted : t.link.resetAccepted = s.link.resetAccepted
  counters : t.link.counters = { s.link.counters with reportsLost := t.link.counters.reportsLost }
  output : ∃ l, t.link.output = s.link.output ++ l
  room : t.link.output.length ≤ max 15 s.link.output.length

theorem Steady.refl (s : State) : Steady s s := by
  constructor <;> first | rfl | (intro _; rfl) | exact ⟨rfl, rfl, rfl⟩ | exact ⟨[], by simp⟩ | simp

theorem Steady.trans {s t u : State} (h : Steady s t) (k : Steady t u) : Steady s u where
  clock := k.clock.trans h.clock
  pins := k.pins.trans h.pins
  chain := k.chain.trans h.chain
  stations := k.stations.trans h.stations
  programs := k.programs.trans h.programs
  drawn := k.drawn.trans h.drawn
  pending := k.pending.trans h.pending
  geometry := k.geometry.trans h.geometry
  counter a := (k.counter a).trans (h.counter a)
  commanded a := (k.commanded a).trans (h.commanded a)
  drive a := (k.drive a).trans (h.drive a)
  slow i := (k.slow i).trans (h.slow i)
  times := ⟨k.times.1.trans h.times.1, k.times.2.1.trans h.times.2.1, k.times.2.2.trans h.times.2.2⟩
  estop := k.estop.trans h.estop
  timeouts := k.timeouts.trans h.timeouts
  slots := k.slots.trans h.slots
  cause := k.cause.trans h.cause
  threshold := k.threshold.trans h.threshold
  last := k.last.trans h.last
  receiver := k.receiver.trans h.receiver
  input := k.input.trans h.input
  baud := k.baud.trans h.baud
  resetAccepted := k.resetAccepted.trans h.resetAccepted
  counters := by rw [k.counters, h.counters]
  output := by
    obtain ⟨l, hl⟩ := h.output
    obtain ⟨m, hm⟩ := k.output
    exact ⟨l ++ m, by rw [hm, hl, List.append_assoc]⟩
  room := by have := h.room; have := k.room; omega

/-- The same composition, the later part first: its goal then fixes the state between. -/
theorem Steady.after {s t u : State} (k : Steady t u) (h : Steady s t) : Steady s u := h.trans k

/-- A change outside the link, of parts that `Steady` leaves open, is steady. -/
theorem Steady.of_link {s t : State} (hc : t.clock = s.clock) (hp : t.pins = s.pins) (hch : t.chain = s.chain)
    (hst : t.stations = s.stations) (hpr : t.programs = s.programs) (hd : t.drawn = s.drawn)
    (hq : t.pending = s.pending) (hg : t.table.geometry = s.table.geometry)
    (ha : ∀ a, (t.axis a).counter = (s.axis a).counter ∧ (t.axis a).commanded = (s.axis a).commanded
      ∧ (t.axis a).drive = (s.axis a).drive)
    (hi : (∀ i, t.slow i = s.slow i) ∧ (t.inputs.tapeTime = s.inputs.tapeTime ∧ t.inputs.airTime = s.inputs.airTime
      ∧ t.inputs.guardTime = s.inputs.guardTime) ∧ t.inputs.estop = s.inputs.estop
      ∧ t.inputs.timeouts = s.inputs.timeouts)
    (hs : t.alarms.slots = s.alarms.slots) (hca : t.alarms.line.cause = s.alarms.line.cause)
    (hv : t.verifier.threshold = s.verifier.threshold)
    (hl : t.verifier.last = s.verifier.last) (hk : t.link = s.link) : Steady s t where
  clock := hc
  pins := hp
  chain := hch
  stations := hst
  programs := hpr
  drawn := hd
  pending := hq
  geometry := hg
  counter a := (ha a).1
  commanded a := (ha a).2.1
  drive a := (ha a).2.2
  slow := hi.1
  times := hi.2.1
  estop := hi.2.2.1
  timeouts := hi.2.2.2
  slots := hs
  cause := hca
  threshold := hv
  last := hl
  receiver := by rw [hk]
  input := by rw [hk]
  baud := by rw [hk]
  resetAccepted := by rw [hk]
  counters := by rw [hk]
  output := ⟨[], by rw [hk]; simp⟩
  room := by rw [hk]; omega

/-! ## The base operations -/

theorem State.emit_steady (s : State) (k : Byte) (p : List Byte) : Steady s (s.emit k p) := by
  unfold State.emit
  split
  · constructor <;> first | rfl | (intro a; cases a <;> rfl) | exact ⟨rfl, rfl, rfl⟩ | exact ⟨_, rfl⟩ | (simp; omega)
  · constructor <;>
      first | rfl | (intro a; cases a <;> rfl) | exact ⟨rfl, rfl, rfl⟩ | exact ⟨[], by simp⟩ | (simp)

theorem State.setWatch_steady (s : State) (w : WatchId) (v : Watch) : Steady s (s.setWatch w v) := by
  apply Steady.of_link <;> first | rfl | (intro a; cases a <;> exact ⟨rfl, rfl, rfl⟩) | skip
  refine ⟨fun i => ?_, ⟨?_, ?_, ?_⟩, ?_, ?_⟩ <;> cases w <;> rfl

theorem State.clearExpired_steady (s : State) (w : WatchId) : Steady s (s.clearExpired w) := by
  unfold State.clearExpired
  split
  · exact State.emit_steady _ _ _
  · exact Steady.refl s

theorem State.startWatch_steady (s : State) (w : WatchId) (n : Nat) : Steady s (s.startWatch w n) :=
  (s.clearExpired_steady w).trans (State.setWatch_steady _ _ _)

theorem State.stopWatch_steady (s : State) (w : WatchId) : Steady s (s.stopWatch w) :=
  (s.clearExpired_steady w).trans (State.setWatch_steady _ _ _)

theorem State.haltWatch_steady (s : State) (w : WatchId) : Steady s (s.haltWatch w) := by
  unfold State.haltWatch
  split
  · exact s.setWatch_steady _ _
  · exact Steady.refl s

/-- Any change of the line record that keeps the reset cause. -/
theorem line_steady (s : State) (l : Line) (h : l.cause = s.alarms.line.cause) :
    Steady s { s with alarms := { s.alarms with line := l } } := by
  apply Steady.of_link <;>
    first
    | rfl
    | exact h
    | (intro a; cases a <;> exact ⟨rfl, rfl, rfl⟩)
    | exact ⟨fun i => by cases i <;> rfl, ⟨rfl, rfl, rfl⟩, rfl, rfl⟩

/-- Any change of the slots and the return queue. -/
theorem boards_steady (s : State) (b : Boards) : Steady s { s with boards := b } := by
  apply Steady.of_link <;>
    first
    | rfl
    | (intro a; cases a <;> exact ⟨rfl, rfl, rfl⟩)
    | exact ⟨fun i => by cases i <;> rfl, ⟨rfl, rfl, rfl⟩, rfl, rfl⟩

/-- Any change of the starved-wait record. -/
theorem starved_steady (s : State) (w : Option StarvedWait) : Steady s { s with starved := w } := by
  apply Steady.of_link <;>
    first
    | rfl
    | (intro a; cases a <;> exact ⟨rfl, rfl, rfl⟩)
    | exact ⟨fun i => by cases i <;> rfl, ⟨rfl, rfl, rfl⟩, rfl, rfl⟩

/-- Any change of the transport. -/
theorem conveyor_steady (s : State) (c : Conveyor) : Steady s { s with conveyor := c } := by
  apply Steady.of_link <;>
    first
    | rfl
    | (intro a; cases a <;> exact ⟨rfl, rfl, rfl⟩)
    | exact ⟨fun i => by cases i <;> rfl, ⟨rfl, rfl, rfl⟩, rfl, rfl⟩

/-- A change of the waits of the BOARD watch. -/
theorem waits_steady (s : State) (t h : Option WaitRec) :
    Steady s { s with inputs := { s.inputs with transportWait := t, headWait := h } } := by
  apply Steady.of_link <;>
    first
    | rfl
    | (intro a; cases a <;> exact ⟨rfl, rfl, rfl⟩)
    | exact ⟨fun i => by cases i <;> rfl, ⟨rfl, rfl, rfl⟩, rfl, rfl⟩

/-- A change of the head that keeps the counter, the commanded position and the drive of the span axis. -/
theorem head_steady (s : State) (h : Head)
    (hs : h.span.counter = s.head.span.counter ∧ h.span.commanded = s.head.span.commanded
      ∧ h.span.drive = s.head.span.drive) : Steady s { s with head := h } := by
  apply Steady.of_link <;>
    first
    | rfl
    | (intro a; cases a <;> first | exact ⟨rfl, rfl, rfl⟩ | exact hs)
    | exact ⟨fun i => by cases i <;> rfl, ⟨rfl, rfl, rfl⟩, rfl, rfl⟩

/-- A change of the table that keeps the geometry and the counter, the commanded position and the drive of its axes. -/
theorem table_steady (s : State) (t : Table) (hg : t.geometry = s.table.geometry)
    (hx : t.x.counter = s.table.x.counter ∧ t.x.commanded = s.table.x.commanded ∧ t.x.drive = s.table.x.drive)
    (hy : t.y.counter = s.table.y.counter ∧ t.y.commanded = s.table.y.commanded ∧ t.y.drive = s.table.y.drive)
    (hr : t.r.counter = s.table.r.counter ∧ t.r.commanded = s.table.r.commanded ∧ t.r.drive = s.table.r.drive) :
    Steady s { s with table := t } := by
  apply Steady.of_link <;>
    first
    | rfl
    | exact hg
    | (intro a; cases a <;> first | exact ⟨rfl, rfl, rfl⟩ | assumption)
    | exact ⟨fun i => by cases i <;> rfl, ⟨rfl, rfl, rfl⟩, rfl, rfl⟩

/-- A change of one axis record that keeps its counter, commanded position and drive. -/
theorem State.setAxis_steady (s : State) (a : Axis) (v : AxisRec)
    (h : v.counter = (s.axis a).counter ∧ v.commanded = (s.axis a).commanded ∧ v.drive = (s.axis a).drive) :
    Steady s (s.setAxis a v) := by
  cases a
  · exact table_steady s _ rfl h ⟨rfl, rfl, rfl⟩ ⟨rfl, rfl, rfl⟩
  · exact table_steady s _ rfl ⟨rfl, rfl, rfl⟩ h ⟨rfl, rfl, rfl⟩
  · exact table_steady s _ rfl ⟨rfl, rfl, rfl⟩ ⟨rfl, rfl, rfl⟩ h
  · exact head_steady s _ h

/-! ## The line and the notices -/

theorem State.setLine_steady (s : State) (l : LineState) (c : LineCause) : Steady s (s.setLine l c) :=
  ((State.emit_steady _ _ _).after (line_steady s _ rfl))

theorem State.judgeReadiness_steady (s : State) (f : ReadyField) : Steady s (s.judgeReadiness f) := by
  unfold State.judgeReadiness
  split <;> first | exact s.setLine_steady _ _ | exact Steady.refl s

theorem Line.setHomed_cause (l : Line) (a : Axis) (b : Bool) : (l.setHomed a b).cause = l.cause := by
  cases a <;> rfl

theorem State.noticeHomed_steady (s : State) (a : Axis) (b : Bool) : Steady s (s.noticeHomed a b) := by
  unfold State.noticeHomed
  split
  · exact Steady.refl s
  · exact ((State.judgeReadiness_steady _ _).after (line_steady s _ (Line.setHomed_cause _ a b)))

theorem State.noticeProgram_steady (s : State) (b : Bool) : Steady s (s.noticeProgram b) := by
  unfold State.noticeProgram
  split
  · exact Steady.refl s
  · exact ((State.judgeReadiness_steady _ _).after (line_steady s _ rfl))

theorem State.noticeHalted_steady (s : State) (b : Bool) : Steady s (s.noticeHalted b) := by
  unfold State.noticeHalted
  split
  · exact Steady.refl s
  · exact ((State.judgeReadiness_steady _ _).after (line_steady s _ rfl))

/-! ## Boards and entries -/

theorem State.modifyBoard_steady (s : State) (id : Nat) (f : Board → Board) : Steady s (s.modifyBoard id f) :=
  boards_steady s _

theorem State.modifyEntry_steady (s : State) (ref : EntryRef) (f : Entry → Entry) : Steady s (s.modifyEntry ref f) :=
  boards_steady s _

theorem State.noticeOutcome_steady (s : State) (ref : EntryRef) (o : HeadOutcome) :
    Steady s (s.noticeOutcome ref o) := by
  unfold State.noticeOutcome
  split
  · exact Steady.refl s
  · split
    · exact s.modifyEntry_steady _ _
    · exact Steady.refl s

theorem State.noticeOutcome_head (s : State) (ref : EntryRef) (o : HeadOutcome) :
    (s.noticeOutcome ref o).head = s.head := by
  unfold State.noticeOutcome
  split
  · rfl
  · split <;> rfl

theorem State.failHeld_steady (s : State) (c : EntryCause) (m : Bool) : Steady s (s.failHeld c m) := by
  unfold State.failHeld
  split
  · exact Steady.refl s
  · refine (s.noticeOutcome_steady _ _).trans (head_steady _ _ ⟨rfl, rfl, rfl⟩)

/-! ## The entry into STOPPED -/

theorem State.abandonMeasurement_steady (s : State) : Steady s s.abandonMeasurement := by
  unfold State.abandonMeasurement
  split
  · exact Steady.refl s
  · apply Steady.of_link <;>
      first
      | rfl
      | (intro a; cases a <;> exact ⟨rfl, rfl, rfl⟩)
      | exact ⟨fun i => by cases i <;> rfl, ⟨rfl, rfl, rfl⟩, rfl, rfl⟩

theorem State.abortHoming_steady (s : State) (a : Axis) : Steady s (s.abortHoming a) := by
  unfold State.abortHoming
  split
  · exact ((State.noticeHomed_steady _ _ _).after (s.setAxis_steady a _ ⟨rfl, rfl, rfl⟩))
  · exact Steady.refl s

theorem AxisRec.stopMove_keeps (a : AxisRec) :
    a.stopMove.counter = a.counter ∧ a.stopMove.commanded = a.commanded ∧ a.stopMove.drive = a.drive := by
  unfold AxisRec.stopMove
  split <;> exact ⟨rfl, rfl, rfl⟩

theorem State.stopTable_steady (s : State) : Steady s s.stopTable := by
  unfold State.stopTable
  have h1 : Steady s (((s.abortHoming .x).abortHoming .y).abortHoming .r) :=
    ((s.abortHoming_steady .x).trans (State.abortHoming_steady _ _)).trans (State.abortHoming_steady _ _)
  dsimp only
  generalize hs1 : ((s.abortHoming .x).abortHoming .y).abortHoming .r = s1 at h1 ⊢
  have h2 : Steady s (if (s.table.x.isHoming || s.table.y.isHoming || s.table.r.isHoming) = true
      then s1.haltWatch .table else s1) := by
    split
    · exact h1.trans (State.haltWatch_steady _ _)
    · exact h1
  generalize (if (s.table.x.isHoming || s.table.y.isHoming || s.table.r.isHoming) = true
      then s1.haltWatch .table else s1) = s2 at h2 ⊢
  split
  · exact h2.trans (((State.haltWatch_steady _ _).after (table_steady s2 _ rfl s2.table.x.stopMove_keeps s2.table.y.stopMove_keeps
      s2.table.r.stopMove_keeps)))
  · exact h2

theorem State.stopSpan_steady (s : State) : Steady s s.stopSpan := by
  unfold State.stopSpan
  have h1 := s.abortHoming_steady .span
  dsimp only
  generalize s.abortHoming .span = s1 at h1 ⊢
  have h2 : Steady s (if s1.head.spanMoving = true then
      { s1 with head := { s1.head with
        span := s1.head.span.stopMove, keptSpan := s1.head.span.target, spanMoving := false } }
      else s1) := by
    split
    · exact h1.trans (head_steady s1 _ s1.head.span.stopMove_keeps)
    · exact h1
  exact h2.trans (State.haltWatch_steady _ _)

theorem State.giveUpHeld_steady (s : State) : Steady s s.giveUpHeld := by
  unfold State.giveUpHeld
  split <;> first | exact s.failHeld_steady _ _ | exact Steady.refl s

theorem State.haltHead_steady (s : State) : Steady s s.haltHead := by
  unfold State.haltHead
  split
  · exact Steady.refl s
  · exact (State.noticeHalted_steady _ _).after
      ((State.haltWatch_steady _ _).after ((head_steady _ s.giveUpHeld.head.halted ⟨rfl, rfl, rfl⟩).after s.giveUpHeld_steady))

theorem State.haltConveyor_steady (s : State) : Steady s s.haltConveyor := by
  unfold State.haltConveyor
  split <;> first
    | exact ((State.haltWatch_steady _ _).after (conveyor_steady s _))
    | exact Steady.refl s

theorem State.enterStopped_steady (s : State) (c : LineCause) : Steady s (s.enterStopped c) :=
  (((((s.setLine_steady _ c).trans (State.abandonMeasurement_steady _)).trans (State.stopTable_steady _)).trans
    (State.haltHead_steady _)).trans (State.stopSpan_steady _)).trans (State.haltConveyor_steady _)

/-! ## Raises and the fall-back rule -/

theorem alarms_steady (s : State) (a : Alarms) (h : a.slots = s.alarms.slots) (hc : a.line = s.alarms.line) :
    Steady s { s with alarms := a } := by
  apply Steady.of_link <;>
    first
    | rfl
    | exact h
    | (show a.line.cause = _; rw [hc])
    | (intro a; cases a <;> exact ⟨rfl, rfl, rfl⟩)
    | exact ⟨fun i => by cases i <;> rfl, ⟨rfl, rfl, rfl⟩, rfl, rfl⟩

theorem State.recordRaise_steady (s : State) (src : Source) (c : AlarmClass) (x : Context) :
    Steady s (s.recordRaise src c x) := by
  unfold State.recordRaise
  exact ((State.emit_steady _ _ _).after (alarms_steady s _ rfl rfl))

theorem State.lineEffect_steady (s : State) (src : Source) (c : AlarmClass) : Steady s (s.lineEffect src c) := by
  unfold State.lineEffect
  split
  · exact s.setLine_steady _ _
  · split
    · exact s.enterStopped_steady _
    · exact Steady.refl s

theorem State.raise_steady (s : State) (src : Source) (c : AlarmClass) (x : Context) :
    Steady s (s.raise src c x) := by
  unfold State.raise
  split
  · exact Steady.refl s
  · exact (s.recordRaise_steady _ _ _).trans (State.lineEffect_steady _ _ _)

theorem State.raiseMissed_steady (s : State) (ref : EntryRef) (code : Nat) (st : Option (Fin 80)) (d : Nat) :
    Steady s (s.raiseMissed ref code st d) := s.raise_steady _ _ _

theorem State.fallBack_steady (s : State) (ref : EntryRef) (counts : Bool) (st : Option (Fin 80)) :
    Steady s (s.fallBack ref counts st) := by
  unfold State.fallBack
  split
  · split
    · split
      · exact (s.modifyEntry_steady _ _).trans (State.raiseMissed_steady _ _ _ _ _)
      · split
        · exact (s.modifyEntry_steady _ _).trans (State.raiseMissed_steady _ _ _ _ _)
        · exact (s.modifyEntry_steady _ _).trans (boards_steady _ _)
    · exact Steady.refl s
  · exact Steady.refl s

/-! ## The judgement at the end of an event -/

theorem State.judgeFollow_steady (s : State) (a : Axis) : Steady s (s.judgeFollow a) := by
  unfold State.judgeFollow
  dsimp only
  split
  · exact ((State.raise_steady _ _ _ _).after (table_steady s _ rfl ⟨rfl, rfl, rfl⟩ ⟨rfl, rfl, rfl⟩ ⟨rfl, rfl, rfl⟩))
  · exact Steady.refl s

theorem AxisRec.leave_keeps (w : Nat) (a : AxisRec) :
    (a.leave w).counter = a.counter ∧ (a.leave w).commanded = a.commanded ∧ (a.leave w).drive = a.drive := by
  unfold AxisRec.leave
  split <;> exact ⟨rfl, rfl, rfl⟩

theorem State.positionTable_steady (s : State) : Steady s s.positionTable :=
  ((State.stopWatch_steady _ _).after (table_steady s _ rfl ⟨rfl, rfl, rfl⟩ ⟨rfl, rfl, rfl⟩ ⟨rfl, rfl, rfl⟩))

theorem Table.departed_keeps (t : Table) :
    t.departed.geometry = t.geometry
      ∧ (t.departed.x.counter = t.x.counter ∧ t.departed.x.commanded = t.x.commanded ∧ t.departed.x.drive = t.x.drive)
      ∧ (t.departed.y.counter = t.y.counter ∧ t.departed.y.commanded = t.y.commanded ∧ t.departed.y.drive = t.y.drive)
      ∧ (t.departed.r.counter = t.r.counter ∧ t.departed.r.commanded = t.r.commanded
        ∧ t.departed.r.drive = t.r.drive) := by
  unfold Table.departed
  dsimp only
  split
  · exact ⟨rfl, t.x.leave_keeps _, t.y.leave_keeps _, t.r.leave_keeps _⟩
  · exact ⟨rfl, ⟨rfl, rfl, rfl⟩, ⟨rfl, rfl, rfl⟩, ⟨rfl, rfl, rfl⟩⟩

theorem State.judgeDeparture_steady (s : State) : Steady s s.judgeDeparture :=
  have h := s.table.departed_keeps
  table_steady s _ h.1 h.2.1 h.2.2.1 h.2.2.2

theorem State.judgeTable_steady (s : State) : Steady s s.judgeTable := by
  have h1 : Steady s { s with table := s.table.timed } :=
    table_steady s _ rfl ⟨rfl, rfl, rfl⟩ ⟨rfl, rfl, rfl⟩ ⟨rfl, rfl, rfl⟩
  unfold State.judgeTable
  dsimp only
  split
  · exact h1.trans (State.positionTable_steady _)
  · exact h1

theorem State.reportHomed_steady (s : State) (a : Axis) : Steady s (s.reportHomed a) := s.emit_steady _ _

theorem State.parkDone_steady (s : State) (a : Axis) : Steady s (s.parkDone a) := by
  have h1 : Steady s ((s.setAxis a { s.axis a with state := .inPosition, parked := none, slowing := false }).reportHomed a) :=
    ((State.reportHomed_steady _ _).after (s.setAxis_steady a _ ⟨rfl, rfl, rfl⟩))
  unfold State.parkDone
  dsimp only
  split
  · exact h1
  · exact h1.trans (State.stopWatch_steady _ _)

theorem State.judgePark_steady (s : State) (a : Axis) : Steady s (s.judgePark a) := by
  unfold State.judgePark
  dsimp only
  split
  · split
    · split
      · exact s.parkDone_steady a
      · exact s.setAxis_steady a _ ⟨rfl, rfl, rfl⟩
    · exact s.setAxis_steady a _ ⟨rfl, rfl, rfl⟩
  · exact Steady.refl s

theorem State.spanArrived_steady (s : State) : Steady s s.spanArrived :=
  (State.stopWatch_steady _ _).after (head_steady s _ ⟨rfl, rfl, rfl⟩)

theorem State.judgeSpan_steady (s : State) : Steady s s.judgeSpan := by
  unfold State.judgeSpan
  dsimp only
  split
  · split
    · exact (State.stopWatch_steady _ _).after
        ((State.reportHomed_steady _ _).after (s.setAxis_steady .span _ ⟨rfl, rfl, rfl⟩))
    · exact Steady.refl s
  · split
    · exact s.spanArrived_steady
    · exact Steady.refl s
  · split
    · exact Steady.refl s
    · exact s.setAxis_steady .span _ ⟨rfl, rfl, rfl⟩
  · exact Steady.refl s

theorem State.startSpan_steady (s : State) (t : Int) : Steady s (s.startSpan t) :=
  ((State.startWatch_steady _ _ _).after (head_steady s _ ⟨rfl, rfl, rfl⟩))

theorem State.judgeSpanMove_steady (s : State) : Steady s s.judgeSpanMove := by
  unfold State.judgeSpanMove
  split
  · exact Steady.refl s
  · dsimp only
    split
    · exact (s.startSpan_steady _).trans (State.judgeSpan_steady _)
    · exact Steady.refl s

theorem State.enterForm_steady (s : State) : Steady s s.enterForm :=
  ((State.startWatch_steady _ _ _).after (head_steady s _ ⟨rfl, rfl, rfl⟩))

theorem State.enterDiscard_steady (s : State) : Steady s s.enterDiscard :=
  (State.startWatch_steady _ _ _).after (head_steady s _ ⟨rfl, rfl, rfl⟩)

theorem State.judgeForm_steady (s : State) : Steady s s.judgeForm := by
  unfold State.judgeForm
  split <;> split
  · exact s.enterForm_steady
  · exact Steady.refl s
  · exact s.enterDiscard_steady
  · exact Steady.refl s

theorem State.enterTop_steady (s : State) : Steady s s.enterTop :=
  ((State.stopWatch_steady _ _).after (head_steady s _ ⟨rfl, rfl, rfl⟩))

theorem State.judgeRise_steady (s : State) : Steady s s.judgeRise := by
  unfold State.judgeRise
  split
  · exact s.enterTop_steady
  · exact Steady.refl s

theorem State.judgeDiscard_steady (s : State) : Steady s s.judgeDiscard := by
  unfold State.judgeDiscard
  split
  · exact ((State.enterTop_steady _).after (head_steady s _ ⟨rfl, rfl, rfl⟩))
  · exact Steady.refl s

theorem State.finishActive_steady (s : State) : Steady s s.finishActive := by
  unfold State.finishActive
  split
  · exact Steady.refl s
  · exact (boards_steady _ _).after (s.emit_steady _ _)

theorem unloading_steady (s : State) (b : Boards) (c : Conveyor) : Steady s { s with boards := b, conveyor := c } := by
  apply Steady.of_link <;>
    first
    | rfl
    | (intro a; cases a <;> exact ⟨rfl, rfl, rfl⟩)
    | exact ⟨fun i => by cases i <;> rfl, ⟨rfl, rfl, rfl⟩, rfl, rfl⟩

theorem completeActive_steady (n : Nat) (s : State) : Steady s (completeActive n s) := by
  induction n generalizing s with
  | zero => exact Steady.refl s
  | succ n ih =>
    unfold completeActive
    split
    · exact Steady.refl s
    · split
      · split
        · exact (ih _).after ((State.finishActive_steady _).after (boards_steady s _))
        · exact unloading_steady s _ _
        · exact boards_steady s _
      · exact Steady.refl s

theorem State.judgeStarved_steady (s : State) : Steady s s.judgeStarved := by
  unfold State.judgeStarved
  split
  · exact starved_steady s _
  · split
    · exact Steady.refl s
    · split
      · exact ((State.raise_steady _ _ _ _).after (starved_steady s _))
      · exact starved_steady s _

theorem State.endTransportWait_steady (s : State) : Steady s s.endTransportWait := by
  unfold State.endTransportWait
  dsimp only
  split
  · exact (waits_steady _ _ _).after (s.emit_steady _ _)
  · exact waits_steady s _ _

theorem State.beginTransportWait_steady (s : State) (id : Nat) : Steady s (s.beginTransportWait id) :=
  waits_steady s _ _

theorem State.endHeadWait_steady (s : State) : Steady s s.endHeadWait := by
  unfold State.endHeadWait
  dsimp only
  split
  · exact (waits_steady _ _ _).after (s.emit_steady _ _)
  · exact waits_steady s _ _

theorem State.beginHeadWait_steady (s : State) (ref : EntryRef) : Steady s (s.beginHeadWait ref) :=
  waits_steady s _ _

theorem State.judgeEntryWait_steady (s : State) : Steady s s.judgeEntryWait := by
  unfold State.judgeEntryWait
  split
  · split
    · exact ((State.endTransportWait_steady _).after (conveyor_steady s _))
    · split
      · exact Steady.refl s
      · exact (State.beginTransportWait_steady _ _).after
          ((State.endTransportWait_steady _).after (conveyor_steady s _))
  · exact Steady.refl s

theorem State.startEntryRun_steady (s : State) : Steady s s.startEntryRun := by
  unfold State.startEntryRun
  dsimp only
  split
  · exact (boards_steady _ _).after ((State.endTransportWait_steady _).after
      ((State.startWatch_steady _ _ _).after (conveyor_steady s _)))
  · exact (State.endTransportWait_steady _).after
      ((State.startWatch_steady _ _ _).after (conveyor_steady s _))

theorem State.judgeEntryRun_steady (s : State) : Steady s s.judgeEntryRun := by
  unfold State.judgeEntryRun
  split
  · exact s.startEntryRun_steady
  · exact Steady.refl s

theorem State.judgeLoadRequest_steady (s : State) : Steady s s.judgeLoadRequest := by
  unfold State.judgeLoadRequest
  split
  · exact table_steady s _ rfl ⟨rfl, rfl, rfl⟩ ⟨rfl, rfl, rfl⟩ ⟨rfl, rfl, rfl⟩
  · exact Steady.refl s

theorem State.judgeBoardWait_steady (s : State) : Steady s s.judgeBoardWait := by
  unfold State.judgeBoardWait
  split
  · exact ((State.beginHeadWait_steady _ _).after (head_steady s _ ⟨rfl, rfl, rfl⟩))
  · exact ((State.endHeadWait_steady _).after (head_steady s _ ⟨rfl, rfl, rfl⟩))
  · exact Steady.refl s

theorem State.judgeRecovery_steady (s : State) : Steady s s.judgeRecovery := by
  unfold State.judgeRecovery
  split
  · dsimp only
    split
    · exact ((State.setLine_steady _ _ _).after (line_steady s _ rfl))
    · exact line_steady s _ rfl
  · exact Steady.refl s

theorem State.judgeQuiescent_steady (s : State) : Steady s s.judgeQuiescent := by
  unfold State.judgeQuiescent
  split
  · exact s.setLine_steady _ _
  · exact Steady.refl s

theorem State.judgeAxes_steady (s : State) : Steady s s.judgeAxes :=
  ((((((((s.judgeDeparture_steady).trans (State.judgeFollow_steady _ _)).trans (State.judgeFollow_steady _ _)).trans
    (State.judgeFollow_steady _ _)).trans (State.judgeTable_steady _)).trans (State.judgePark_steady _ _)).trans
    (State.judgePark_steady _ _)).trans (State.judgePark_steady _ _)).trans (State.judgeSpan_steady _)

theorem State.judgeHead_steady (s : State) : Steady s s.judgeHead :=
  (((s.judgeSpanMove_steady).trans (State.judgeForm_steady _)).trans (State.judgeRise_steady _)).trans
    (State.judgeDiscard_steady _)

theorem State.judgeBoards_steady (s : State) : Steady s s.judgeBoards :=
  (((completeActive_steady 2 s).trans (State.judgeEntryWait_steady _)).trans (State.judgeEntryRun_steady _)).trans
    (State.judgeLoadRequest_steady _)

theorem State.judgeLine_steady (s : State) : Steady s s.judgeLine :=
  (((s.judgeStarved_steady).trans (State.judgeBoardWait_steady _)).trans (State.judgeRecovery_steady _)).trans
    (State.judgeQuiescent_steady _)

/-! ## The starts at the end of an event -/

theorem AxisRec.startMove_keeps (a : AxisRec) (t : Int) :
    (a.startMove t).counter = a.counter ∧ (a.startMove t).commanded = a.commanded ∧ (a.startMove t).drive = a.drive :=
  ⟨rfl, rfl, rfl⟩

theorem State.startMove_steady (s : State) (p : Purpose) : Steady s (s.startMove p) := by
  unfold State.startMove
  split
  · exact Steady.refl s
  · exact (State.startWatch_steady _ _ _).after
      (table_steady s _ rfl (s.table.x.startMove_keeps _) (s.table.y.startMove_keeps _) (s.table.r.startMove_keeps _))

theorem State.startEntryMove_steady (s : State) : Steady s s.startEntryMove := by
  unfold State.startEntryMove
  split
  · exact s.startMove_steady _
  · exact Steady.refl s

theorem State.startLoadMove_steady (s : State) : Steady s s.startLoadMove := by
  unfold State.startLoadMove
  split
  · exact s.startMove_steady _
  · exact Steady.refl s

theorem State.judgeMoves_steady (s : State) : Steady s s.judgeMoves := by
  unfold State.judgeMoves
  split
  · exact ((s.startEntryMove_steady).trans (State.startLoadMove_steady _)).trans (State.judgeAxes_steady _)
  · exact Steady.refl s

theorem State.startDiscard_steady (s : State) : Steady s s.startDiscard := by
  unfold State.startDiscard
  split
  · exact s.enterDiscard_steady
  · exact Steady.refl s

theorem State.enterPick_steady (s : State) : Steady s s.enterPick :=
  (State.startWatch_steady _ _ _).after (head_steady s _ ⟨rfl, rfl, rfl⟩)

theorem State.startPick_steady (s : State) : Steady s s.startPick := by
  unfold State.startPick
  split
  · exact (s.enterPick_steady).trans (head_steady _ _ ⟨rfl, rfl, rfl⟩)
  · exact Steady.refl s

theorem State.startDrive_steady (s : State) : Steady s s.startDrive := by
  unfold State.startDrive
  split
  · exact (State.startWatch_steady _ _ _).after (head_steady s _ ⟨rfl, rfl, rfl⟩)
  · exact Steady.refl s

theorem State.startLoad_steady (s : State) : Steady s s.startLoad := by
  unfold State.startLoad
  split
  · dsimp only
    split
    · exact (State.startEntryRun_steady _).after (conveyor_steady s _)
    · exact (State.beginTransportWait_steady _ _).after (conveyor_steady s _)
  · exact Steady.refl s

theorem State.startUnload_steady (s : State) : Steady s s.startUnload := by
  unfold State.startUnload
  split
  · exact conveyor_steady s _
  · exact Steady.refl s

theorem State.startExitRun_steady (s : State) : Steady s s.startExitRun := by
  unfold State.startExitRun
  split
  · exact (State.startWatch_steady _ _ _).after (conveyor_steady s _)
  · exact Steady.refl s

/-- The start of a gate stroke changes the stroke, its output and the GATE watch alone (R17). -/
theorem State.startStroke_keeps (s : State) :
    ∃ stroke output, Steady { s with chain := { s.chain with gateStroke := stroke, gateOutput := output } } s.startStroke
      ∧ s.startStroke.chain = { s.chain with gateStroke := stroke, gateOutput := output } := by
  unfold State.startStroke
  split
  · exact ⟨_, _, State.startWatch_steady _ _ _, (State.startWatch_steady _ _ _).chain⟩
  · exact ⟨_, _, Steady.refl s, rfl⟩

/-- What the starts of an event leave as it is, once a gate stroke that is due has started. -/
theorem State.judgeStarts_steady (s : State) : Steady s.startStroke s.judgeStarts :=
  (((((((State.startDiscard_steady _).trans (State.judgeDiscard_steady _)).trans (State.judgeMoves_steady _)).trans
    (State.startPick_steady _)).trans (State.startDrive_steady _)).trans (State.startLoad_steady _)).trans
    (State.startUnload_steady _)).trans (State.startExitRun_steady _)

/-- What the end of an event leaves as it is: all that `Steady` names, but for the gate stroke that may start on the way. -/
theorem State.judge_steady (s : State) : ∃ u, Steady s u ∧ Steady u.startStroke s.judge :=
  ⟨_, ((s.judgeAxes_steady).trans (State.judgeHead_steady _)).trans (State.judgeBoards_steady _),
    (State.judgeStarts_steady _).trans (State.judgeLine_steady _)⟩

/-- No judgement at the end of an event touches the pockets, C or the index (R1, R2, R11). -/
theorem State.judge_chain (s : State) :
    s.judge.chain = { s.chain with gateStroke := s.judge.chain.gateStroke, gateOutput := s.judge.chain.gateOutput } := by
  obtain ⟨u, h, k⟩ := s.judge_steady
  obtain ⟨stroke, output, -, hc⟩ := u.startStroke_keeps
  rw [k.chain, hc, h.chain]

/-! ## The fires of one event (R90, R91) -/

/-- A station whose fire is not due fires nothing. -/
theorem State.fire_of_not_due {s : State} {k : Fin 80} (h : s.fireDue k = false) : s.fire k = s := by
  unfold State.fire; rw [h]; rfl

/-- What every fire keeps, the fires of one event keep. -/
theorem State.fireAll_keeps {P : State → Prop} (fire : ∀ s k, P s → P (s.fire k)) (s : State) (h : P s) : P s.fireAll := by
  unfold State.fireAll
  generalize List.finRange 80 = l
  induction l generalizing s with
  | nil => exact h
  | cons k l ih => exact ih _ (fire s k h)

/-- With no fire due, the fires of an event change nothing. -/
theorem State.fireAll_of_none_due {s : State} (h : ∀ k, s.fireDue k = false) : s.fireAll = s :=
  State.fireAll_keeps (P := (· = s)) (fun _ k e => by rw [e]; exact State.fire_of_not_due (h k)) s rfl

/-! ## The steps of an axis (R120, R122, R131, R135) -/

/-- Steps change the commanded position of an axis and whether it still decelerates from its search, and nothing else. -/
theorem AxisRec.issue_keeps (a : AxisRec) (n : Int) :
    a.issue n = { a with commanded := (a.issue n).commanded, slowing := (a.issue n).slowing } := by
  unfold AxisRec.issue
  split
  · rfl
  · split
    case h_3 => split <;> rfl
    all_goals rfl

/-- An axis with its drive disabled, or neither homing nor MOVING, is issued no steps. -/
theorem AxisRec.issue_of_rest {a : AxisRec} (h : a.drive = false ∨ (a.isHoming = false ∧ a.state ≠ .moving)) (n : Int) :
    a.issue n = a := by
  unfold AxisRec.issue
  rcases h with h | ⟨h, k⟩
  · simp [h]
  · cases e : a.state <;> simp_all [AxisRec.isHoming]

/-- Steps on the way to a target end between the place where they start and the target. -/
theorem stepsTo_between (t c n : Int) :
    (c ≤ t → c ≤ stepsTo t c n ∧ stepsTo t c n ≤ t) ∧ (t ≤ c → t ≤ stepsTo t c n ∧ stepsTo t c n ≤ c) := by
  unfold stepsTo
  constructor <;> intro h <;> split <;> omega

/-- Steps to a place between the start and the target end there. -/
theorem stepsTo_of_between {t c r : Int} (h : (c ≤ r ∧ r ≤ t) ∨ (t ≤ r ∧ r ≤ c)) : stepsTo t c (r - c) = r := by
  unfold stepsTo
  split <;> omega

/-- Steps of a MOVING axis stay short of its target, on the side on which they start. -/
theorem stepsTowards_short (t c n : Int) :
    (c < t → c ≤ stepsTowards t c n ∧ stepsTowards t c n < t) ∧ (t < c → t < stepsTowards t c n ∧ stepsTowards t c n ≤ c) := by
  have h1 := (stepsTo_between (t - 1) c n).1
  have h2 := (stepsTo_between (t + 1) c n).2
  unfold stepsTowards
  constructor <;> intro h <;> split <;> omega

/-- A stopped axis rests short of its target or at it (R135). -/
theorem AxisRec.comeToRest_between {a : AxisRec} {t : Int} (h : a.target = some t) (rest : Int) :
    (a.commanded ≤ t → a.commanded ≤ (a.comeToRest rest).commanded ∧ (a.comeToRest rest).commanded ≤ t)
      ∧ (t ≤ a.commanded → t ≤ (a.comeToRest rest).commanded ∧ (a.comeToRest rest).commanded ≤ a.commanded) := by
  unfold AxisRec.comeToRest
  simpa only [h, Option.elim] using stepsTo_between t a.commanded (rest - a.commanded)

end Sys2Proof.Machine
end

