-- ==== Sys2Proof/Tests/Slice0.lean ====
section
/-! SUPPORT. Small tests: the checks of WellFormed, the manual's worked examples, and for each obligation with hypotheses a
named witness of states and operands that meet them. Expected values come from the manual. -/

namespace Sys2Proof.Tests

-- One test after another: each evaluation in the kernel keeps a thread with its stack, and all at once they fill the memory.
set_option Elab.async false

open Sys2Proof Sys2Proof.Machine

/-! ## WellFormed: an ill-formed term for each check -/

def goodFields : CodeFields := ⟨300, 2, 4, 5, 0, 0, 100, 1, 2, 1, 47, -7, 200, 200⟩
def goodGeometry : Geometry := ⟨50000, 40000, 20000, 15000, 150, -80, 0, 240000, 0, 200000, 4000, 2000, 6, 8, 400⟩
def goodTimes : Timeouts := ⟨250, 150, 400, 800, 1500, 5000, 20000⟩
def goodStep : StepRecord := ⟨1, 0, 300, 4530, 2210, 0⟩

theorem test_wellformed_good :
    (Instr.defineCode 1#8 goodFields).wellFormed = true ∧ (Instr.setGeometry 1#8 goodGeometry).wellFormed = true
      ∧ (Instr.setTiming 1#8 goodTimes).wellFormed = true ∧ (Instr.programSteps 1#8 0 [goodStep]).wellFormed = true
      ∧ (Instr.readBoard 1#8 1 (some 65535)).wellFormed = true := by decide

theorem test_illformed_bytes :
    (Instr.readPocket 0#8 256).wellFormed = false ∧ (Instr.lockStation 0#8 256).wellFormed = false
      ∧ (Instr.unlockStation 0#8 256).wellFormed = false ∧ (Instr.resetStation 0#8 256).wellFormed = false
      ∧ (Instr.readStation 0#8 256).wellFormed = false ∧ (Instr.loadStation 0#8 256 1 1).wellFormed = false
      ∧ (Instr.setStationGroup 0#8 256 0 0 0 0).wellFormed = false
      ∧ (Instr.setStationGroup 0#8 0 256 0 0 0).wellFormed = false
      ∧ (Instr.setStationGroup 0#8 0 0 256 0 0).wellFormed = false
      ∧ (Instr.setStationGroup 0#8 0 0 0 256 0).wellFormed = false
      ∧ (Instr.setStationGroup 0#8 0 0 0 0 256).wellFormed = false
      ∧ (Instr.readBoard 0#8 256 none).wellFormed = false ∧ (Instr.setFireDwell 0#8 256).wellFormed = false
      ∧ (Instr.setFailThreshold 0#8 256).wellFormed = false ∧ (Instr.home 0#8 256).wellFormed = false
      ∧ (Instr.setAlarmClass 0#8 256 0).wellFormed = false ∧ (Instr.setAlarmClass 0#8 0 256).wellFormed = false
      ∧ (Instr.skipStep 0#8 0 256 0).wellFormed = false ∧ (Instr.disposeStep 0#8 0 0 0 256).wellFormed = false := by
  decide

theorem test_illformed_words :
    (Instr.loadStation 0#8 0 65536 0).wellFormed = false ∧ (Instr.loadStation 0#8 0 1 65536).wellFormed = false
      ∧ (Instr.removeCode 0#8 65536).wellFormed = false ∧ (Instr.readCode 0#8 65536).wellFormed = false
      ∧ (Instr.readBoard 0#8 0 (some 65536)).wellFormed = false
      ∧ (Instr.setDebounce 0#8 65536 0 0).wellFormed = false ∧ (Instr.setDebounce 0#8 0 65536 0).wellFormed = false
      ∧ (Instr.setDebounce 0#8 0 0 65536).wellFormed = false
      ∧ (Instr.announceBoard 0#8 4294967296 0 0).wellFormed = false
      ∧ (Instr.announceBoard 0#8 0 4294967296 0).wellFormed = false
      ∧ (Instr.announceBoard 0#8 0 0 65536).wellFormed = false
      ∧ (Instr.skipStep 0#8 4294967296 0 0).wellFormed = false ∧ (Instr.skipStep 0#8 0 0 65536).wellFormed = false
      ∧ (Instr.disposeStep 0#8 4294967296 0 0 0).wellFormed = false
      ∧ (Instr.disposeStep 0#8 0 256 0 0).wellFormed = false ∧ (Instr.disposeStep 0#8 0 0 65536 0).wellFormed = false
      ∧ (Instr.abandonBoard 0#8 4294967296).wellFormed = false ∧ (Instr.ackAlarms 0#8 4294967296).wellFormed = false
      ∧ (Instr.measurementCompletion 65536 0).wellFormed = false
      ∧ (Instr.measurementCompletion 0 65536).wellFormed = false := by decide

theorem test_illformed_records :
    (Instr.defineCode 0#8 { goodFields with number := 65536 }).wellFormed = false
      ∧ (Instr.defineCode 0#8 { goodFields with st3 := 256 }).wellFormed = false
      ∧ (Instr.defineCode 0#8 { goodFields with e := 128 }).wellFormed = false
      ∧ (Instr.defineCode 0#8 { goodFields with e := -129 }).wellFormed = false
      ∧ (Instr.setGeometry 0#8 { goodGeometry with sx := 32768 }).wellFormed = false
      ∧ (Instr.setGeometry 0#8 { goodGeometry with sy := -32769 }).wellFormed = false
      ∧ (Instr.setGeometry 0#8 { goodGeometry with window := 256 }).wellFormed = false
      ∧ (Instr.setGeometry 0#8 { goodGeometry with hx := 4294967296 }).wellFormed = false
      ∧ (Instr.setTiming 0#8 { goodTimes with board := 65536 }).wellFormed = false
      ∧ (Instr.programSteps 0#8 65536 []).wellFormed = false
      ∧ (Instr.programSteps 0#8 0 [{ goodStep with kind := 256 }]).wellFormed = false
      ∧ (Instr.programSteps 0#8 0 [{ goodStep with span := 65536 }]).wellFormed = false
      ∧ (Instr.programSteps 0#8 0 (List.replicate 25 goodStep)).wellFormed = false
      ∧ (Instr.programBegin 0#8 0 0 0 0 (List.replicate 17 (0, 0))).wellFormed = false
      ∧ (Instr.programBegin 0#8 0 0 0 0 [(65536, 0)]).wellFormed = false
      ∧ (Instr.programBegin 0#8 4294967296 0 0 0 []).wellFormed = false := by decide

theorem test_illformed_events :
    (Instr.unknownKindCommand 0x2D#8 0#8 []).wellFormed = false
      ∧ (Instr.unknownKindCommand 0x40#8 0#8 []).wellFormed = false
      ∧ (Instr.unknownKindCommand 0x2E#8 0#8 (List.replicate 249 0#8)).wellFormed = false
      ∧ (Instr.homingParkSettled .span).wellFormed = false
      ∧ (Instr.encoderCount .x true 2147483648).wellFormed = false
      ∧ (Instr.axisDecelerated .x (-2147483649)).wellFormed = false := by decide +kernel

/-! ## The manual's worked values -/

/-- Section 12.2: over the bytes 31h..39h the check is 29B1h. -/
theorem test_crc : crc [0x31#8, 0x32#8, 0x33#8, 0x34#8, 0x35#8, 0x36#8, 0x37#8, 0x38#8, 0x39#8] = 0x29B1#16 := by
  decide +kernel

/-- Section 7.4.1: the worked target. -/
theorem test_target : target goodGeometry 4530 2210 1 (15000, 0) = (148862, 161867, 25000) := by decide +kernel

/-- Section 7.4.2: rounding at a half. -/
theorem test_rounding :
    scaled 1250 100 = 5001 ∧ scaled (-1250) 100 = -5001 ∧ scaled 1250 (-100) = 5000 ∧ scaled 1249 100 = 4996
      ∧ scaled (-3000) 0 = -12000 := by decide +kernel

/-- R103: the normalised specs. -/
theorem test_normalised :
    (VerifySpec.mk .res 10 3 50 50).mant = 1000 ∧ (VerifySpec.mk .res 10 3 50 50).expo = 1
      ∧ (VerifySpec.mk .cap 47 (-7) 0 0).mant = 4700 ∧ (VerifySpec.mk .cap 47 (-7) 0 0).expo = -9
      ∧ (VerifySpec.mk .cap 1 (-10) 0 0).expo = -13 ∧ (VerifySpec.mk .diode 7 (-1) 0 0).mant = 7000
      ∧ (VerifySpec.mk .cap 47 (-7) 0 0).duration = 25 ∧ (VerifySpec.mk .cap 1 (-10) 0 0).duration = 6 := by decide

/-- Section 6.9.1: readings of resistors and capacitors. -/
theorem test_bands :
    judgeBand 1047 1000 50 50 = .pass ∧ judgeBand 1051 1000 50 50 = .high ∧ judgeBand 949 1000 50 50 = .low
      ∧ judgeBand 3760 4700 200 200 = .pass ∧ judgeBand 5641 4700 200 200 = .high ∧ judgeBand 4629 4700 15 15 = .low
      ∧ judgeBand 4630 4700 15 15 = .pass ∧ judgeBand 4771 4700 15 15 = .high ∧ judgeBand 2201 2200 0 0 = .high
      ∧ judgeBand 20000 1000 50 50 = .overRange ∧ judgeLink 5000 = .pass ∧ judgeLink 5001 = .high := by decide +kernel

def diode : Measurement := ⟨0, ⟨1, 0⟩, 0, 1, .diode, 7000, -4, 200, 200, 8, 0⟩

/-- Section 6.9.1: the four diodes. -/
theorem test_diodes :
    diode.judge 6910 20000 = .pass ∧ diode.judge 20000 6850 = .polarity ∧ diode.judge 20000 20000 = .overRange
      ∧ diode.judge 12 0 = .low := by decide +kernel

/-- R37: the four groups of the example. -/
def groups : Stations :=
  { State.reset.stations with
    groups := #v[⟨true, 0x20, 0x0F, .warn⟩, ⟨true, 0, 0x1F, .hold⟩, ⟨true, 0x40, 0x0F, .stop⟩, ⟨true, 0x30, 0, .none⟩] }

theorem test_groups :
    groups.groupOf 40 = some 0 ∧ groups.groupOf 5 = some 1 ∧ groups.groupOf 70 = some 2 ∧ groups.groupOf 48 = some 3
      ∧ groups.groupOf 49 = none ∧ groups.groupOf 63 = none := by decide

/-- R202: a code record of 19 bytes, in little-endian fields. -/
theorem test_code_frame :
    frameOf (.defineCode 7#8 goodFields) = some ⟨0x09#8, 7#8, [0x2C#8, 0x01#8, 2#8, 4#8, 5#8, 0#8, 0#8, 100#8, 0#8, 1#8,
      2#8, 1#8, 47#8, 0#8, 0xF9#8, 200#8, 0#8, 200#8, 0#8]⟩ := by decide

/-- R197: the characters of a frame without payload, and R199: a frame one byte short. -/
theorem test_frames :
    (Frame.bytes ⟨0x01#8, 0x05#8, []⟩).take 4 = [0x7E#8, 2#8, 1#8, 5#8]
      ∧ readFrame ⟨0x02#8, 5#8, [17#8]⟩ = .command (.readPocket 5#8 17) ∧ readFrame ⟨0x02#8, 5#8, []⟩ = .badLength
      ∧ readFrame ⟨0x2E#8, 5#8, []⟩ = .unknownKind := by decide

/-! ## States that the witnesses use -/

/-- A state in another line state. -/
def inLine (l : LineState) (s : State) : State :=
  { s with alarms := { s.alarms with line := { s.alarms.line with state := l } } }

/-- The reset state in a line state. -/
def lineAt (l : LineState) : State := inLine l State.reset

def check : VerifySpec := ⟨.res, 10, 3, 50, 50⟩

def entryOf (st : EntryStatus) (v : Verification) (p : Option (Fin 128)) : Entry :=
  ⟨0, 0, 0, 100, 100, .none, .normal, v, 1, st, 0, p, none, false, false⟩

/-- One board with one entry, in the ACTIVE slot. -/
def boardOf (st : EntryStatus) (v : Verification) (p : Option (Fin 128)) (ph : Phase) : Board :=
  ⟨1, 9, 1, [entryOf st v p], false, ph, false, false⟩

def withBoard (b : Board) (s : State) : State := { s with boards := { s.boards with active := some b } }

/-- A pocket that names the entry 1/0 and station 2. -/
def pocketOf (st : PocketState) : Pocket := ⟨st, some ⟨1, 0⟩, some 2, none, none⟩

/-- The reset state in RUNNING, with the pocket at a path position (C is 0) and its entry in a status. -/
def placed (p : Fin 128) (st : PocketState) (e : EntryStatus) : State :=
  ((withBoard (boardOf e (.check check) (some p) .clamped) (lineAt .running)).setPocket p (pocketOf st))

def codeOf100 : CodeRecord := ⟨100, [2, 3], 0, false, 100, .none, 1, check⟩

/-- The code 100 defined with the stations 2 and 3, both in a state. -/
def coded (st : StationState) (starved : Bool) (s : State) : State :=
  let r : Station := { owner := some 100, state := st, tape := true }
  let u := (s.setStation 2 r).setStation 3 { owner := some 100, state := .ready, tape := true }
  { u with stations := { u.stations with codes := [{ codeOf100 with starved := starved }] } }

def headIn (h : HeadState) (held : Option HeldEntry) (s : State) : State :=
  { s with head := { s.head with state := h, held := held } }

def held : HeldEntry := ⟨⟨1, 0⟩, 100, .inward, .normal⟩

def convIn (c : TransportState) (b : Option Nat) (s : State) : State :=
  { s with conveyor := { s.conveyor with state := c, board := b } }

def axisIn (a : Axis) (st : AxisState) (t : Option Int) (s : State) : State :=
  s.setAxis a { s.axis a with state := st, target := t, homed := true, drive := true }

theorem takes (s : State) (h : s.link = State.reset.link) : s.takesAtOnce := by
  unfold State.takesAtOnce; rw [h]; exact ⟨rfl, by decide, rfl⟩

/-! ## Witnesses: the step, the resets and the link -/

theorem test_witness_idleStep :
    State.reset.pending = [] ∧ State.reset.dueStep = none
      ∧ (State.reset.setFireUnit 0 ⟨true, some 0⟩).dueStep = some (.fireDwellEnd 0)
      ∧ (let s : State := { State.reset with link := { State.reset.link with receiver := .inFrame [2#8] 10 } }
        s.pending = [] ∧ s.dueStep = none ∧ s.link.receiver = .inFrame [2#8] 10) :=
  ⟨rfl, by decide +kernel, by decide +kernel, rfl, by decide +kernel, rfl⟩

/-- RESET accepted, its reply the next frame to leave. -/
def leaving : State := { State.reset with link := { State.reset.link with
  resetAccepted := true, output := [⟨0xAD#8, 4#8, [0x00#8]⟩] } }

theorem test_witness_resetCommand :
    State.reset.takesAtOnce ∧ leaving.link.resetAccepted = true
      ∧ leaving.link.output = ⟨0xAD#8, 4#8, [0x00#8]⟩ :: [] ∧ leaving.inputs.estop = false :=
  ⟨takes _ rfl, rfl, rfl, rfl⟩

theorem test_witness_codecRoundTrip :
    (Instr.readPocket 5#8 255).wellFormed = true ∧ frameOf (.readPocket 5#8 255) = some ⟨0x02#8, 5#8, [255#8]⟩
      ∧ (Instr.unknownKindCommand 0x3F#8 5#8 [1#8]).wellFormed = true
      ∧ frameOf (.unknownKindCommand 0x3F#8 5#8 [1#8]) = some ⟨0x3F#8, 5#8, [1#8]⟩ := by decide

theorem test_witness_receiverTakesFrame :
    (Frame.mk 1#8 1#8 (List.replicate 248 0#8)).payload.length ≤ 248 ∧ State.reset.link.receiver = .hunting
      ∧ (Instr.readChain 1#8).wellFormed = true ∧ frameOf (.readChain 1#8) = some ⟨1#8, 1#8, []⟩ :=
  ⟨by decide +kernel, rfl, rfl, rfl⟩

/-- The receiver in a frame. -/
def gathering (bytes : List Byte) (since : Nat) : State :=
  { State.reset with link := { State.reset.link with receiver := .inFrame bytes since } }

theorem test_witness_receiverCases :
    (State.reset.link.receiver = .hunting ∧ (0x7D#8 : Byte) ≠ 0x7E#8)
      ∧ ((gathering [] 10).link.receiver = .inFrame [] 10 ∧ ((1#8 : Byte).toNat < 2 ∨ 250 < (1#8 : Byte).toNat)
        ∧ ((251#8 : Byte).toNat < 2 ∨ 250 < (251#8 : Byte).toNat) ∧ 2 ≤ (2#8 : Byte).toNat
        ∧ (250#8 : Byte).toNat ≤ 250)
      ∧ ((gathering [2#8] 0).link.receiver = .inFrame [2#8] 0 ∧ [2#8].length + 1 < bodyLength [2#8] + 3)
      ∧ ((gathering [2#8, 1#8, 5#8, 0#8] 0).link.receiver = .inFrame [2#8, 1#8, 5#8, 0#8] 0
        ∧ [2#8, 1#8, 5#8, 0#8].length + 1 = bodyLength [2#8, 1#8, 5#8, 0#8] + 3
        ∧ frameOfBytes ([2#8, 1#8, 5#8, 0#8] ++ [0#8]) = none)
      ∧ ((gathering [] 11).link.receiver = .inFrame [] 11 ∧ 10 < 11) :=
  ⟨⟨rfl, by decide⟩, ⟨rfl, by decide, by decide, by decide, by decide⟩, ⟨rfl, by decide⟩,
    ⟨rfl, by decide, by decide +kernel⟩, rfl, by decide⟩

/-- The output queue with a number of frames. -/
def queued (n : Nat) (input : List Frame) (accepted : Bool) : State :=
  { State.reset with link := { State.reset.link with
    output := List.replicate n ⟨0x81#8, 1#8, [1#8]⟩, input := input, resetAccepted := accepted } }

theorem test_witness_linkQueues :
    16 ≤ (queued 16 [] false).link.output.length ∧ (queued 0 [] true).link.resetAccepted = true
      ∧ (Instr.readChain 1#8).wellFormed = true ∧ frameOf (.readChain 1#8) = some ⟨1#8, 1#8, []⟩
      ∧ (queued 0 [] false).link.output = []
      ∧ (queued 1 [] false).link.output = ⟨0x81#8, 1#8, [1#8]⟩ :: [] ∧ (queued 1 [] false).link.input = []
      ∧ ((queued 1 [] true).link.resetAccepted = true
        ∧ ¬((0x81#8 : Byte) = 0xAD#8 ∧ ([1#8] : List Byte) = [0x00#8]))
      ∧ ((queued 16 [⟨1#8, 1#8, []⟩] false).link.output.length ≤ 16
        ∧ (queued 16 [⟨1#8, 1#8, []⟩] false).link.input = [⟨1#8, 1#8, []⟩]
        ∧ readFrame ⟨1#8, 1#8, []⟩ = .command (.readChain 1#8))
      ∧ ((0x40#8 : Byte).toNat = 0 ∨ 0x3F < (0x40#8 : Byte).toNat)
      ∧ (queued 14 [] false).link.output.length ≤ 14 ∧ 15 ≤ (queued 15 [] false).link.output.length := by
  refine ⟨by decide, rfl, rfl, rfl, rfl, rfl, rfl, ⟨rfl, by decide⟩, ⟨by decide, rfl, rfl⟩, by decide, by decide, by decide⟩

/-- R200: the report that finds 14 frames takes the 15th place, and the one that finds 15 is dropped and counted. -/
theorem test_report_places :
    ((queued 14 [] false).emit 0x43#8 [1#8]).link.output.getLast? = some ⟨0x43#8, 0#8, [1#8]⟩
      ∧ ((queued 14 [] false).emit 0x43#8 [1#8]).link.counters.reportsLost = 0
      ∧ ((queued 15 [] false).emit 0x43#8 [1#8]).link.output.length = 15
      ∧ ((queued 15 [] false).emit 0x43#8 [1#8]).link.counters.reportsLost = 1 := by decide

theorem test_witness_unknownKind :
    State.reset.takesAtOnce ∧ 0x2E ≤ (0x2E#8 : Byte).toNat ∧ (0x3F#8 : Byte).toNat ≤ 0x3F
      ∧ permittedLength 0x0C 72 = true ∧ permittedLength 0x0D 2 = true ∧ permittedLength 0x0D 3 = false
      ∧ readFrame ⟨0x2D#8, 1#8, [0#8]⟩ = .badLength ∧ permittedLength 0x2D 1 = false := by
  refine ⟨takes _ rfl, by decide, by decide, by decide, by decide, by decide, by decide, by decide⟩

theorem test_witness_commandAnswers :
    (act (.readPocket 1#8 128) State.reset).2.code = .badValue ∧ State.reset.takesAtOnce
      ∧ (Instr.readPocket 1#8 128).wellFormed = true ∧ frameOf (.readPocket 1#8 128) = some ⟨2#8, 1#8, [128#8]⟩
      ∧ (∃ t, exec (.readPocket 1#8 128) State.reset = .next t)
      ∧ readFrame ⟨2#8, 1#8, [128#8]⟩ = .command (.readPocket 1#8 128) :=
  ⟨by decide, takes _ rfl, rfl, rfl, ⟨_, rfl⟩, rfl⟩

/-! ## Witnesses: the laws and the frames -/

/-- A state with a command waiting, other than the reset state. -/
def waiting : State := { State.reset with clock := 7, pending := [.readChain 1#8] }

theorem test_witness_step : ∃ t, step waiting = .next t := ⟨_, rfl⟩

theorem test_witness_queueLaw : QueueLaw waiting :=
  ⟨by decide, by decide, fun _ _ h => by cases h⟩

theorem test_witness_alarmLaw : AlarmLaw waiting :=
  ⟨fun src => by cases src <;> decide, fun h => by cases h⟩

theorem test_witness_pocketLaw : PocketLaw waiting := by
  have h : ∀ p, waiting.pocket p = ⟨.unknown, none, none, none, none⟩ := by decide +kernel
  intro p
  rw [h p]; exact ⟨rfl, rfl, rfl, rfl⟩

theorem test_witness_transportLaw : TransportLaw waiting :=
  ⟨trivial, fun h => (by cases h), rfl, fun _ h => by cases h⟩

theorem test_witness_quiescenceLaw : QuiescenceLaw waiting := fun h => by cases h

theorem test_witness_readinessLaw : ReadinessLaw waiting :=
  ⟨rfl, by decide, fun a => by cases a <;> decide, rfl⟩

theorem test_witness_rangeLaw : RangeLaw waiting := by
  refine ⟨?_, by decide, by decide, by decide, ?_, ?_, by decide, by decide, by decide⟩
  · have h : ∀ k, waiting.station k = {} := by decide +kernel
    intro k
    rw [h k]; unfold Station.inRange; decide
  · unfold timeoutsInRange; decide
  · unfold geometryInRange; decide

theorem test_witness_codeLaw : CodeLaw waiting ∧ PendingLaw waiting := by
  have h : ∀ k, waiting.station k = {} := by decide +kernel
  have n : ∀ k, 0 = waiting.assignedTo k := by decide +kernel
  refine ⟨⟨List.Pairwise.nil, fun _ h => (by cases h), fun k n => ?_, fun _ h => (by cases h)⟩, fun k => ?_⟩
  · rw [h k]; exact ⟨fun h => (by cases h), fun ⟨_, h, _⟩ => (by cases h)⟩
  · rw [h k]; exact ⟨n k, fun _ => rfl⟩

/-- The index completion that brings a pocket to the station it names leaves the places lawful (R6). -/
theorem test_witness_placeLaw : PlaceLaw waiting ∧ PlaceLaw (placed 3 .assigned .assigned) := by
  have unknown : ∀ p, (waiting.pocket p).state ≠ .assigned := by decide +kernel
  have one : ∀ p, ((placed 3 .assigned .assigned).pocket p).state = .assigned → p = 3 := by decide +kernel
  refine ⟨⟨fun p k h => absurd h (unknown p), fun p h => (by cases h)⟩, fun p k h n => ?_, fun p h => (by cases h)⟩
  cases one p h
  have h2 : ((placed 3 .assigned .assigned).pocket 3).station = some 2 := by decide +kernel
  cases h2.symm.trans n
  exact ⟨by decide +kernel, fun h => absurd rfl h⟩

theorem test_witness_standLaw : StandLaw waiting ∧ HoldLaw waiting := by
  have unknown : ∀ p, (waiting.pocket p).state = .unknown := by decide +kernel
  refine ⟨⟨fun p => ?_, fun _ h => (by cases h), fun h => (by cases h), fun h => absurd rfl h⟩, fun h => (by cases h),
    fun h => (by cases h), .inr (.inr rfl), fun h => (by cases h), fun ⟨_, h⟩ => (by cases h)⟩
  rw [unknown p]; trivial

/-- R3, R70: one entry of the ACTIVE board ASSIGNED, with its pocket. -/
theorem test_witness_entryLaw : EntryLaw waiting ∧ EntryLaw (placed 3 .assigned .assigned) := by
  have none_ : ∀ p, (waiting.pocket p).entry = none ∧ (waiting.pocket p).state = .unknown := by decide +kernel
  have work : waiting.entriesInWork ≤ 128 ∧ (placed 3 .assigned .assigned).entriesInWork ≤ 128 := by decide +kernel
  have some_ : ∀ p, (placed 3 .assigned .assigned).pocket p
      = if p = 3 then pocketOf .assigned else ⟨.unknown, none, none, none, none⟩ := by decide +kernel
  have only : ∀ ref e, (placed 3 .assigned .assigned).entry? ref = some e →
      ref = ⟨1, 0⟩ ∧ e = entryOf .assigned (.check check) (some 3) := by
    intro ⟨b, i⟩ e h
    by_cases hb : 1 = b
    · subst hb
      cases i with
      | zero => exact ⟨rfl, (Option.some.inj h).symm⟩
      | succ i => cases h
    · simp [State.entry?, State.board?, placed, withBoard, boardOf, State.setPocket, hb, lineAt, inLine, State.reset,
        State.afterReset] at h
  refine ⟨⟨⟨fun p => ?_, fun p ref h => ?_, fun _ _ h => (by cases h)⟩, ⟨List.nodup_nil, fun ref => ⟨fun h => (by cases h),
    fun ⟨_, h, _⟩ => (by cases h)⟩, work.1, fun ref => ⟨fun ⟨_, h, _⟩ => (by cases h), fun ⟨_, h, _⟩ => (by cases h)⟩⟩,
    fun _ h => (by cases h)⟩, ⟨fun p => ?_, fun p ref h => ?_, fun ref e h => ?_⟩, ⟨List.nodup_nil,
    fun ref => ⟨fun h => (by cases h), fun ⟨_, h, q⟩ => ?_⟩, work.2,
    fun ref => ⟨fun ⟨_, h, _⟩ => (by cases h), fun ⟨_, h, q⟩ => ?_⟩⟩, fun _ h q => ?_⟩
  · rw [(none_ p).1, (none_ p).2]; rfl
  · rw [(none_ p).1] at h; cases h
  · rw [some_ p]; split <;> rfl
  · rw [some_ p] at h ⊢
    split at h
    · rename_i hp; subst hp; cases h; exact ⟨_, rfl, rfl, rfl⟩
    · cases h
  · obtain ⟨rfl, rfl⟩ := only ref e h
    refine ⟨rfl, fun _ => ⟨3, by rw [some_ 3]; rfl, fun q hq => ?_⟩⟩
    rw [some_ q] at hq
    split at hq
    · assumption
    · cases hq
  · obtain ⟨-, rfl⟩ := only ref _ h; cases q
  · obtain ⟨-, rfl⟩ := only ref _ h; cases q
  · cases h; cases q

theorem test_witness_pendingCountsAgree : (CodeLaw waiting ∧ PlaceLaw waiting ∧ PendingLaw waiting)
    ∧ (PocketLaw waiting ∧ TransportLaw waiting ∧ ReadinessLaw waiting) ∧ StandLaw waiting ∧ HoldLaw waiting
    ∧ EntryLaw waiting :=
  ⟨⟨test_witness_codeLaw.1, test_witness_placeLaw.1, test_witness_codeLaw.2⟩,
    ⟨test_witness_pocketLaw, test_witness_transportLaw, test_witness_readinessLaw⟩,
    test_witness_standLaw.1, test_witness_standLaw.2, test_witness_entryLaw.1⟩

theorem test_witness_outputLaw : OutputLaw waiting := by
  have f : ∀ k, waiting.fireUnit k = ⟨false, none⟩ := by decide +kernel
  refine ⟨⟨by decide, by decide, fun k h => ?_, by decide, by decide, ?_, ?_, by decide, rfl, by decide, rfl⟩,
    by decide, by decide, ?_, by decide, by decide, fun d => ?_, by decide⟩
  · rw [f k] at h; cases h
  · exact ⟨fun h => (by cases h), fun ⟨_, h⟩ => (by cases h)⟩
  · exact ⟨fun h => (by cases h), fun ⟨_, h⟩ => (by cases h)⟩
  · exact ⟨fun h => (by cases h), fun h => h.elim (fun ⟨_, _, h⟩ => (by cases h)) (fun h => (by cases h))⟩
  · exact ⟨fun h => (by cases h), fun h => (by cases h)⟩

theorem test_witness_settledLaw : SettledLaw waiting := by
  refine ⟨⟨fun h => ?_, fun h => ?_, fun _ h => ?_, fun h => (by cases h)⟩, ⟨⟨fun h => ?_, fun h => ?_⟩, by decide, by decide⟩,
    ⟨fun _ h => ?_, fun h => ?_⟩, ⟨by decide, fun _ h => ?_⟩,
    ⟨by decide +kernel, rfl, rfl, rfl, rfl, fun _ h => (by cases h), rfl, rfl, rfl, rfl, rfl⟩, fun _ h => ?_⟩
  · cases h.1
  · cases h.1
  · cases h
  · cases h
  · cases h.1
  · cases h
  · cases h
  · cases h
  · cases h

theorem test_witness_eventsEndSettled : TransportLaw waiting ∧ ReadinessLaw waiting ∧ SettledLaw waiting :=
  ⟨test_witness_transportLaw, test_witness_readinessLaw, test_witness_settledLaw⟩

theorem test_witness_machineEventsFrame :
    frameOf .headJam = none ∧ (∃ t, exec .headJam State.reset = .next t) ∧ (∀ b stop, Instr.headJam ≠ .rxCharacter b stop)
      ∧ (∀ b1 b0, Instr.headJam ≠ .frameSent b1 b0) ∧ (∀ lv, Instr.headJam ≠ .powerOn lv)
      ∧ (∀ lv, Instr.headJam ≠ .resetPin lv) :=
  ⟨rfl, ⟨_, rfl⟩, fun _ _ h => (by cases h), fun _ _ h => (by cases h), fun _ h => (by cases h), fun _ h => (by cases h)⟩

theorem test_witness_commandsFrame :
    (Instr.run 1#8).wellFormed = true ∧ frameOf (.run 1#8) = some ⟨0x28#8, 1#8, []⟩ ∧ State.reset.takesAtOnce
      ∧ ∃ t, exec (.run 1#8) State.reset = .next t := ⟨rfl, rfl, takes _ rfl, _, rfl⟩

def captured : Captured := ⟨.gateJam, .hold, .running, {}, 4⟩

/-- A state whose capture record is valid. -/
def withCapture : State :=
  { State.reset with alarms := { State.reset.alarms with capture := ⟨some captured, 255⟩ } }

theorem test_witness_captureKept :
    withCapture.alarms.capture.content = some captured ∧ withCapture.alarms.capture.overflow ≤ 255
      ∧ withCapture.link.input = [] ∧ (∃ t, exec (.run 1#8) withCapture = .next t)
      ∧ (Instr.run 1#8).wellFormed = true ∧ (∀ tag, Instr.run 1#8 ≠ .clearCapture tag) :=
  ⟨rfl, by decide, rfl, ⟨_, rfl⟩, rfl, fun _ h => by cases h⟩

/-! ## Witnesses: the reading commands -/

theorem test_witness_readsOfChain :
    State.reset.takesAtOnce ∧ 127 < 128 ∧ 79 < 80 ∧ (0 < 1 ∨ 9999 < 0) ∧ (10000 < 1 ∨ 9999 < 10000)
      ∧ State.reset.code? 9999 = none
      ∧ (coded .ready false State.reset).code? 100 = some codeOf100
      ∧ (coded .ready false State.reset).takesAtOnce :=
  ⟨takes _ rfl, by decide, by decide, by decide, by decide, by decide +kernel, by decide +kernel, takes _ rfl⟩

def header : Header := ⟨9, 2, 1, .imageMajor, [(0, 0)]⟩

/-- The store with a program of one INSERT step and one BARRIER. -/
def steps : List StepRecord := [⟨1, 0, 100, 20000, 15000, 0⟩, ⟨3, 0, 0, 0, 0, 0⟩]
def resolved : List Resolved := resolveFrom {} 0 (indexed steps)
def loaded (s : State) : State := { s with programs := ⟨.loaded header steps resolved 1, .ok⟩ }
def receiving (l : List StepRecord) (s : State) : State := { s with programs := ⟨.receiving header l, .none⟩ }

theorem test_witness_readsOfBoards :
    State.reset.programs.store = .empty
      ∧ (receiving steps State.reset).programs.store = .receiving header steps
      ∧ (loaded State.reset).programs.store = .loaded header steps resolved 1 ∧ (loaded State.reset).takesAtOnce
      ∧ 1 < 2 ∧ State.reset.boards.active = none
      ∧ (placed 4 .assigned .assigned).boards.active = some (boardOf .assigned (.check check) (some 4) .clamped)
      ∧ (boardOf .assigned (.check check) (some 4) .clamped).entries.length ≤ 1
      ∧ (boardOf .assigned (.check check) (some 4) .clamped).entries[0]?
          = some (entryOf .assigned (.check check) (some 4))
      ∧ (placed 4 .assigned .assigned).board? 1 = some (boardOf .assigned (.check check) (some 4) .clamped)
      ∧ (placed 4 .assigned .assigned).entry? ⟨1, 0⟩ = some (entryOf .assigned (.check check) (some 4)) :=
  ⟨rfl, rfl, rfl, takes _ rfl, by decide, rfl, rfl, by decide, rfl, rfl, rfl⟩

theorem test_witness_readsOfMotion :
    State.reset.takesAtOnce ∧ (headIn (.halted .reset true) (some held) State.reset).takesAtOnce
      ∧ (convIn (.unloading false true) (some 1) State.reset).takesAtOnce := ⟨takes _ rfl, takes _ rfl, takes _ rfl⟩

/-- R174: the BOARD watch with no wait, with one, with two, and with an expired one. -/
theorem test_board_watch :
    let wait (expired : Bool) (n : Nat) : Option WaitRec := some ⟨expired, n, 1, none⟩
    let watch (t h : Option WaitRec) := ({ State.reset.inputs with transportWait := t, headWait := h } : Inputs).boardWatch
    watch none none = (.idle, 0) ∧ watch (wait false 9) none = (.running, 9)
      ∧ watch (wait false 9) (wait false 4) = (.running, 4) ∧ watch (wait true 0) (wait false 4) = (.expired, 0) := by
  decide

theorem test_witness_readsOfControl :
    State.reset.alarms.capture.content = none ∧ State.reset.takesAtOnce ∧ withCapture.takesAtOnce
      ∧ withCapture.alarms.capture.content = some captured := ⟨rfl, takes _ rfl, takes _ rfl, rfl⟩

/-! ## Witnesses: the chain and the stations -/

/-- A state with a VERIFIED pocket at 60, EMPTY pockets elsewhere, in RUNNING. -/
def indexable : State :=
  { lineAt .running with chain := { State.reset.chain with pockets := Vector.replicate 128 ⟨.empty, none, none, none, none⟩ } }.setPocket
    60 (pocketOf .verified)

theorem test_witness_indexAndGate :
    indexable.indexDue = true
      ∧ ({ indexable with chain := { indexable.chain with index := .inFlight } } : State).chain.index = .inFlight
      ∧ State.reset.chain.index ≠ .inFlight
      ∧ (indexable.setPocket 90 ⟨.unknown, none, none, none, none⟩).gateDue = true
      ∧ ({ indexable with chain := { indexable.chain with gateStroke := some 90 } } : State).chain.gateStroke = some 90
      ∧ State.reset.chain.gateStroke = none :=
  ⟨by decide +kernel, rfl, by decide, by decide +kernel, rfl, rfl⟩

theorem test_witness_presenceCheck :
    ((placed 84 .fired .fired).pocket ((placed 84 .fired .fired).pocketAt 84)) = pocketOf .fired
      ∧ (indexable.pocket (indexable.pocketAt 84)).state = .empty
      ∧ ((State.reset.setPocket 84 ⟨.orphan, none, none, none, some .skipped⟩).pocket 84).state = .orphan
      ∧ (State.reset.setPocket 84 ⟨.orphan, none, none, none, some .skipped⟩).pocketAt 84 = 84
      ∧ (State.reset.pocket (State.reset.pocketAt 84)).state = .unknown := by decide +kernel

theorem test_witness_stationCommands :
    State.reset.takesAtOnce ∧ 79 < 80 ∧ (0 = 0 ∨ 65535 < 0 ∨ 65535 < 0) ∧ (1 = 0 ∨ 65535 < 1 ∨ 65535 < 65536)
      ∧ 1 ≤ 65535 ∧ (coded .locked false State.reset).takesAtOnce
      ∧ ((coded .locked false State.reset).station 2).state = .locked
      ∧ ((coded .quarantined true State.reset).station 2).state = .quarantined
      ∧ ((coded .ready false State.reset).station 2).state = .ready ∧ (State.reset.station 79).state = .unloaded :=
  ⟨takes _ rfl, by decide, by decide, by decide, by decide, takes _ rfl, by decide +kernel, by decide +kernel,
    by decide +kernel, by decide +kernel⟩

theorem test_witness_stationGroups :
    (∀ g, (vget groups.groups g).base ≤ 127 ∧ (vget groups.groups g).mask ≤ 127)
      ∧ groups.groupOf 40 = some 0 ∧ groups.groupOf 79 = some 2
      ∧ (lineAt .holding).takesAtOnce ∧ (lineAt .holding).line = .holding ∧ (lineAt .held).takesAtOnce
      ∧ (lineAt .held).line ≠ .running ∧ (lineAt .held).line ≠ .holding ∧ (4 < 5 ∨ 3 < 0) ∧ AlarmClass.stop.num = 3
      ∧ (3 < 4 ∧ (127 < 128 ∨ 127 < 0)) :=
  ⟨by decide, by decide, by decide, takes _ rfl, rfl, takes _ rfl, by decide, by decide, by decide, rfl, by decide⟩

theorem test_witness_codeCommands :
    codeRecord? { goodFields with length := 5 } = none ∧ (codeRecord? goodFields).isSome = true
      ∧ State.reset.takesAtOnce ∧ (0 < 1 ∨ 9999 < 0) ∧ State.reset.code? 1 = none
      ∧ (coded .ready false State.reset).code? 100 = some codeOf100
      ∧ (coded .ready false State.reset).references 100 = false
      ∧ (loaded (coded .ready false State.reset)).references 100 = true
      ∧ (loaded (coded .ready false State.reset)).takesAtOnce :=
  ⟨by decide, by decide, takes _ rfl, by decide, by decide +kernel, by decide +kernel, rfl, by decide, takes _ rfl⟩

theorem test_witness_stationMoves :
    ((coded .empty false State.reset).stations.codes.Pairwise fun c d => c.number < d.number)
      ∧ ((coded .ready true State.reset).stations.codes.Pairwise fun c d => c.number < d.number)
      ∧ ((coded .empty false State.reset).station 2).owner = some 100
      ∧ (coded .empty false State.reset).code? 100 = some codeOf100
      ∧ codeOf100.stations[codeOf100.active]? = some 2
      ∧ codeOf100.stations[(codeOf100.active + 1 + 0) % codeOf100.stations.length]? = some 3
      ∧ ((coded .empty false State.reset).station 3).state = .ready
      ∧ (coded .ready true State.reset).code? 100 = some { codeOf100 with starved := true }
      ∧ ((coded .empty false State.reset).setStation 3 { state := .locked }).code? 100 = some codeOf100
      ∧ (((coded .empty false State.reset).setStation 3 { state := .locked }).station 3).state ≠ .ready
      ∧ ((placed 3 .assigned .assigned).pocket 3) = pocketOf .assigned
      ∧ (∀ q : Fin 128, ((placed 3 .assigned .assigned).pocket q).state = .assigned →
          ((placed 3 .assigned .assigned).pocket q).station = some 2 →
          ((placed 3 .assigned .assigned).positionOf q).val ≤ ((placed 3 .assigned .assigned).positionOf 3).val)
      ∧ (∀ p : Fin 128, ¬((State.reset.pocket p).state = .assigned ∧ (State.reset.pocket p).station = some 2))
      ∧ (State.reset.station 2).owner = none ∧ (State.reset.station 2).state ≠ .ready
      ∧ ((coded .ready false State.reset).station 2).state = .ready := by
  decide +kernel

/-! ## Witnesses: programs and boards -/

theorem test_witness_programLoading :
    State.reset.takesAtOnce ∧ (lineAt .running).takesAtOnce ∧ (loaded State.reset).takesAtOnce
      ∧ (receiving steps State.reset).takesAtOnce ∧ ([] = ([] : List StepRecord) ∨ 24 < 0)
      ∧ 24 < (List.replicate 25 goodStep).length ∧ [goodStep] ≠ [] ∧ [goodStep].length ≤ 24
      ∧ (withBoard (boardOf .pending .bypass none .waiting) State.reset).boards.active.isSome = true :=
  ⟨takes _ rfl, takes _ rfl, takes _ rfl, takes _ rfl, by decide, by decide, by decide, by decide, rfl⟩

/-- A whole program received, with its code defined and a geometry that reaches it. -/
def whole (l : List StepRecord) : State :=
  let s := receiving l (coded .ready false State.reset)
  { s with table := { s.table with geometry := goodGeometry } }

theorem test_witness_programEnd :
    (whole steps).takesAtOnce ∧ (∀ h l, State.reset.programs.store ≠ .receiving h l)
      ∧ (whole steps).programs.store = .receiving header steps ∧ steps.length = header.steps
      ∧ [goodStep].length ≠ header.steps ∧ steps[0]? = some ⟨1, 0, 100, 20000, 15000, 0⟩
      ∧ inTravel goodGeometry (target goodGeometry 20000 15000 0 (header.offset 0)) = true
      ∧ inTravel { goodGeometry with xmax := 100000 } (target goodGeometry 20000 15000 0 (header.offset 0)) = false
      ∧ resolved.length = 1 ∧ (∀ q ∈ resolved, q.step = 0) := by
  refine ⟨takes _ rfl, fun _ _ h => (by cases h), rfl, rfl, by decide, rfl, by decide +kernel, by decide +kernel,
    by decide, by decide⟩

theorem test_witness_targetRanges :
    (120000 : Nat) ≤ 120000 ∧ (60000 : Nat) ≤ 60000 ∧ (-2000 : Int) ≤ 2000 ∧ (0 : Int) ≤ 0 ∧ (-1 : Int) < 0
      ∧ target { goodGeometry with hx := 120000, rcx := 60000, sx := 2000 } 60000 0 2 (60000, 0)
          = (721440, 99992, 50000) := by decide +kernel

theorem test_witness_announce :
    State.reset.programs.store.isLoaded = false ∧ State.reset.takesAtOnce
      ∧ (loaded State.reset).programs.store = .loaded header steps resolved 1
      ∧ (loaded State.reset).takesAtOnce ∧ ¬(∀ i, i < header.images → (1 : Nat).testBit i = false)
      ∧ (∀ i, i < header.images → (2 : Nat).testBit i = false) := by
  refine ⟨rfl, takes _ rfl, rfl, takes _ rfl, fun h => ?_, fun i h => ?_⟩
  · exact absurd (h 0 (by decide)) (by decide)
  · have h0 : i = 0 := by have : i < 1 := h; omega
    rw [h0]; decide

/-- A board in the ACTIVE slot with one entry in a status. -/
def boarded (st : EntryStatus) (l : LineState) : State :=
  withBoard (boardOf st (.check check) none .clamped) (lineAt l)

theorem test_witness_dispositions :
    (boarded .pending .running).takesAtOnce ∧ (15 < 16 ∨ 1023 < 0) ∧ (15 < 0 ∨ 1023 < 1024) ∧ 15 ≤ 15 ∧ 1023 ≤ 1023
      ∧ State.reset.board? 1 = none
      ∧ (boarded .pending .running).board? 1 = some (boardOf .pending (.check check) none .clamped)
      ∧ (boardOf .pending (.check check) none .clamped).entries[0]? = some (entryOf .pending (.check check) none)
      ∧ (boarded .failedOpen .running).entry? ⟨1, 0⟩ = some (entryOf .failedOpen (.check check) none)
      ∧ (boarded .failedOpen .running).takesAtOnce ∧ 1 < 2
      ∧ (entryOf .assigned .bypass (some 4)).pocket = some 4
      ∧ ((placed 4 .assigned .assigned).pocket 4).state = .assigned ∧ ((placed 4 .assigned .assigned).pocket 4).station = some 2
      ∧ (entryOf .failedOpen .bypass (some 4)).status.inPocket = false :=
  ⟨takes _ rfl, by decide, by decide, by decide, by decide, rfl, rfl, rfl, rfl, takes _ rfl, by decide, rfl,
    by decide +kernel, by decide +kernel, rfl⟩

/-- R73: the skip of an ASSIGNED entry withdraws its pocket and lowers the pending-fire count, which makes a LOCKING station
LOCKED; that of a FIRED entry orphans its pocket. -/
theorem test_skip :
    (let s := (placed 4 .assigned .assigned).setStation 2 { owner := some 100, state := .locking, pending := 1, tape := true }
      let t := s.skipEntry ⟨1, 0⟩ (entryOf .assigned (.check check) (some 4))
      t.pocket 4 = ⟨.empty, none, none, none, none⟩ ∧ (t.station 2).pending = 0 ∧ (t.station 2).state = .locked
        ∧ (t.entry? ⟨1, 0⟩).map (·.status) = some .skipped)
      ∧ ((placed 20 .fired .fired).skipEntry ⟨1, 0⟩ (entryOf .fired (.check check) (some 20))).pocket 20
        = ⟨.orphan, none, none, none, some .skipped⟩ := by decide +kernel

/-- A HELD line, with the pocket at a position and its entry of the ACTIVE board in a status. -/
def abandonable (p : Fin 128) (st : PocketState) (e : EntryStatus) : State := inLine .held (placed p st e)

/-- A second board with one entry, in the NEXT slot. -/
def withNext (st : EntryStatus) (s : State) : State :=
  { s with boards := { s.boards with next := some { boardOf st .bypass none .waiting with id := 2 } } }

theorem test_witness_abandon :
    ((lineAt .running).takesAtOnce ∧ (lineAt .running).line = .running ∧ (boarded .pending .held).takesAtOnce
      ∧ (boarded .pending .held).line = .held ∧ (boarded .pending .held).board? 2 = none)
      ∧ ((abandonable 4 .assigned .assigned).takesAtOnce ∧ (abandonable 4 .assigned .assigned).line = .held
        ∧ (abandonable 4 .assigned .assigned).board? 1 = some (boardOf .assigned (.check check) (some 4) .clamped)
        ∧ (abandonable 4 .assigned .assigned).isActive 1 = true
        ∧ ((abandonable 4 .assigned .assigned).pocket 4).state = .assigned
        ∧ ((abandonable 4 .fired .fired).pocket 4).state = .fired)
      ∧ ((withNext .pending (boarded .pending .held)).isActive 2 = false
        ∧ (withNext .pending (boarded .pending .held)).board? 2 = some { boardOf .pending .bypass none .waiting with id := 2 })
      ∧ (headIn .wait (some held) (boarded .inHead .held)).head.held.any (fun h => h.ref.board = 1) = true
      ∧ State.reset.head.held.any (fun h => h.ref.board = 1) = false :=
  ⟨⟨takes _ rfl, rfl, takes _ rfl, rfl, rfl⟩, ⟨takes _ rfl, rfl, rfl, rfl, by decide +kernel, by decide +kernel⟩, ⟨rfl, rfl⟩, rfl,
    rfl⟩

/-- R75 and R76: the ASSIGNED pocket of an abandoned entry is EMPTY, the entry MISSED, and the clamped board on its way out. -/
theorem test_abandon :
    ∃ t, exec (.abandonBoard 1#8 1) (abandonable 4 .assigned .assigned) = .next t ∧ t.pocket 4 = ⟨.empty, none, none, none, none⟩
      ∧ t.conveyor.unloadRequest = true ∧ (t.entry? ⟨1, 0⟩).map (·.status) = some .missed :=
  ⟨_, rfl, by decide +kernel, by decide +kernel, by decide +kernel⟩

theorem test_witness_completion :
    State.reset.boards.active = none
      ∧ (∃ e ∈ (boardOf .pending .bypass none .waiting).entries, e.status.terminal = false)
      ∧ (∀ ph, ∀ e ∈ (boardOf .missed .bypass none ph).entries, e.status.terminal = true)
      ∧ (∃ e ∈ ({ boardOf .queued .bypass none .waiting with id := 2 } : Board).entries, e.status.terminal = false)
      ∧ (withNext .skipped (boarded .missed .running)).boards.next = some { boardOf .skipped .bypass none .waiting with id := 2 } := by
  refine ⟨rfl, by decide, fun ph => by cases ph <;> decide, by decide, rfl⟩

theorem test_witness_fallBack :
    (placed 4 .fired .fired).board? 1 = some (boardOf .fired (.check check) (some 4) .clamped)
      ∧ (boardOf .fired (.check check) (some 4) .clamped).entries[0]? = some (entryOf .fired (.check check) (some 4))
      ∧ (entryOf .fired (.check check) (some 4)).remakeLimit = 1
      ∧ (entryOf .fired (.check check) (some 4)).remakes = 0 := ⟨rfl, rfl, rfl, rfl⟩

theorem test_witness_travelLaw : TravelLaw { loaded State.reset with table := (whole steps).table } := by
  intro h l q n hs i r image hr hk hi
  cases hs
  match i, hr with
  | 0, hr =>
    cases hr
    have h0 : image = 0 := by have : image < 1 := hi; omega
    subst h0
    exact ⟨200030, 159987, 0, by decide +kernel, by decide, by decide, by decide, by decide⟩
  | 1, hr => cases hr; cases hk

/-! ## Witnesses: dispensing and verification -/

/-- A pending entry of a code whose station is READY, with an EMPTY pocket at entry. -/
def assignable : State :=
  (coded .ready false (withBoard (boardOf .pending (.check check) none .clamped) (lineAt .running))).setPocket 0
    ⟨.empty, none, none, none, none⟩

/-- Two entries of one image, the second behind a barrier, with the first in a status. -/
def barred (st : EntryStatus) (mark : Bool) : State :=
  withBoard { boardOf st .bypass none .clamped with
    entries := [{ entryOf st .bypass none with hostRemake := mark }, { entryOf .pending .bypass none with step := 2, sect := 1 }] }
    (coded .ready false (lineAt .running))

/-- The candidate of a starved code in a line state. -/
def starving (l : LineState) : State := coded .empty true (boarded .pending l)

theorem test_witness_assignment :
    assignable.assignmentOpen = true ∧ assignable.positionOf 0 = 0 ∧ (assignable.pocket 0).state = .empty
      ∧ assignable.candidate = some (⟨1, 0⟩, .activeList) ∧ assignable.activeStation (assignable.codeOf ⟨1, 0⟩) = some 2
      ∧ assignable.chain.entryTaken = false ∧ State.reset.assignmentOpen = false ∧ State.reset.positionOf 5 ≠ 0
      ∧ (State.reset.pocket 0).state ≠ .empty := by decide +kernel

/-- R87, R95 and section 5.10.3: a pocket withdrawn at entry is not assigned again there. -/
theorem test_assigned_once :
    let t := assignable.requestAssignment 0
    let u := (t.withdraw 0).modifyEntry ⟨1, 0⟩ fun e => { e with status := .pending, pocket := none }
    (t.pocket 0).state = .assigned ∧ (u.pocket 0).state = .empty ∧ u.assignmentOpen = true ∧ u.assignmentDue = false
      ∧ u.requestAssignment 0 = u := by decide +kernel

/-- R81: row by row. -/
theorem test_candidate :
    ({ barred .queued false with boards := { (barred .queued false).boards with queue := [⟨1, 0⟩] } } : State).candidate
        = some (⟨1, 0⟩, .queue)
      ∧ (barred .inserted false).candidate = some (⟨1, 1⟩, .activeList)
      ∧ (withNext .pending (boarded .inHead .running)).candidate = some (⟨2, 0⟩, .nextList)
      ∧ (withNext .missed (boarded .inHead .running)).candidate = none ∧ State.reset.candidate = none := by decide +kernel

/-- R83, R84: what blocks and what does not. -/
theorem test_wait :
    (barred .loaded false).waitOf ⟨1, 1⟩ = .barrier ∧ (barred .loaded true).waitOf ⟨1, 1⟩ = .none
      ∧ (barred .verified false).waitOf ⟨1, 1⟩ = .none ∧ (barred .failedOpen false).waitOf ⟨1, 1⟩ = .none
      ∧ (starving .running).wait = .starved ∧ (starving .held).wait = .starved
      ∧ (starving .running).judgeStarved.starved = some ⟨⟨1, 0⟩, 100⟩ := by decide +kernel

/-- The pocket over station 2 is assigned to it. -/
def fireable : State := placed 3 .assigned .assigned

theorem test_witness_fire :
    fireable.fireDue 2 = true ∧ (fireable.pocket (fireable.pocketAt (stationPosition 2))).entry = some ⟨1, 0⟩
      ∧ ((State.reset.setFireUnit 0 ⟨true, some 0⟩).fireUnit 0).dwell = some 0
      ∧ (∀ j, j ≠ 2 → fireable.fireDue j = false) := by decide +kernel

/-- R90, R94: a deferred fire is taken in the event of the RUN. -/
theorem test_fire_at_run :
    ∃ t, exec (.run 1#8) (inLine .held fireable) = .next t ∧ (t.pocket 3).state = .fired
      ∧ (t.fireUnit 2).output = true := ⟨_, rfl, by decide +kernel, by decide +kernel⟩

theorem test_witness_hostSettings :
    State.reset.takesAtOnce ∧ (4 ≤ 4 ∧ 4 ≤ 30) ∧ ¬(4 ≤ 3 ∧ 3 ≤ 30) ∧ ¬(4 ≤ 31 ∧ 31 ≤ 30) ∧ ¬(1 ≤ 0 ∧ 0 ≤ 15)
      ∧ ¬(1 ≤ 16 ∧ 16 ≤ 15) ∧ fireable.fireDue 2 = true
      ∧ ((State.reset.setStation 0 { failRun := 2 }).station 0).failRun + 1 = State.reset.verifier.threshold
      ∧ ((State.reset.setStation 0 { failRun := 15 }).station 0).failRun + 1 ≠ State.reset.verifier.threshold :=
  ⟨takes _ rfl, by decide, by decide, by decide, by decide, by decide, by decide +kernel, by decide +kernel,
    by decide +kernel⟩

theorem test_witness_verify :
    (1 ≤ check.m ∧ check.m ≤ 9999) ∧ (VerifySpec.mk .cap 1 (-10) 0 0).expo ≤ -10 ∧ -10 < (VerifySpec.mk .cap 47 (-7) 0 0).expo
      ∧ (VerifySpec.mk .link 1 0 0 0).kind = .link ∧ diode.kind = .diode ∧ 19999 ≤ 19999 ∧ 1000 ≤ 1000 := by decide

/-- A LOADED pocket at the contacts, with a verification. -/
def atContacts (v : Verification) : State :=
  (withBoard (boardOf .loaded v (some 88) .clamped) (lineAt .running)).setPocket 88 (pocketOf .loaded)

/-- A measurement of pocket 88 whose duration has run, over a state of the pocket. -/
def measuring (st : PocketState) : State :=
  let s := placed 88 st .loaded
  { s with verifier := { s.verifier with flight := some ⟨88, ⟨1, 0⟩, 2, 100, .res, 1000, 1, 50, 50, 4, 0⟩ } }

theorem test_witness_measurements :
    ((atContacts (.check check)).line = .running
        ∧ (atContacts (.check check)).pocket ((atContacts (.check check)).pocketAt 88) = pocketOf .loaded
        ∧ (atContacts (.check check)).entry? ⟨1, 0⟩ = some (entryOf .loaded (.check check) (some 88))
        ∧ (atContacts (.check check)).verifier.flight = none ∧ check.kind ≠ .none)
      ∧ (atContacts .bypass).entry? ⟨1, 0⟩ = some (entryOf .loaded .bypass (some 88))
      ∧ ((measuring .loaded).verifier.flight = some ⟨88, ⟨1, 0⟩, 2, 100, .res, 1000, 1, 50, 50, 4, 0⟩
        ∧ ((measuring .loaded).pocket 88).state = .loaded
        ∧ (Measurement.mk 88 ⟨1, 0⟩ 2 100 .res 1000 1 50 50 4 0).judge 1047 0 = .pass
        ∧ (Measurement.mk 88 ⟨1, 0⟩ 2 100 .res 1000 1 50 50 4 0).judge 949 0 ≠ .pass)
      ∧ ((measuring .orphan).pocket 88).state = .orphan
      ∧ (lineAt .stopped).line ≠ .running ∧ (lineAt .stopped).line ≠ .holding := by decide +kernel

/-- A measurement does not outlast its duration (R106): the next idle step completes it. -/
theorem test_measurement_ends_on_time :
    let s : State := { State.reset with verifier := (measuring .loaded).verifier }
    s.pending = [] ∧ s.dueStep = some s.timelyCompletion := by
  intro s
  have start : s.dueStart = none := by decide +kernel
  have position : s.positionDue = false := by decide +kernel
  have due : s.measurementDue = true := by decide +kernel
  exact ⟨rfl, by simp [State.dueStep, State.dueEnd, start, position, due]⟩

/-! ## Witnesses: the table and the head -/

theorem test_witness_homing :
    State.reset.takesAtOnce ∧ (0 = 0 ∨ 15 < 0) ∧ (16 = 0 ∨ 15 < 16) ∧ 1 ≤ 15 ∧ 15 ≤ 15 ∧ (lineAt .running).takesAtOnce
      ∧ (lineAt .running).line ≠ .unready ∧ (lineAt .running).line ≠ .ready ∧ (lineAt .running).line ≠ .held
      ∧ State.reset.line = .unready ∧ ((headIn .top none State.reset).takesAtOnce)
      ∧ ((axisIn .x (.homing .clear) none State.reset).axis .x).state = .homing .clear
      ∧ ((axisIn .span (.homing .search) none State.reset).axis .span).state = .homing .search
      ∧ (let s := State.reset.setAxis .y { state := .homing .park, parked := some 8 }
        (s.axis .y).state = .homing .park ∧ (s.axis .y).parked = some 8 ∧ s.table.geometry.settle ≤ 8) :=
  ⟨takes _ rfl, by decide, by decide, by decide, by decide, takes _ rfl, by decide, by decide, by decide, rfl,
    takes _ rfl, rfl, rfl, rfl, rfl, by decide⟩

theorem test_witness_geometry :
    State.reset.takesAtOnce ∧ geometryOk goodGeometry = true ∧ geometryOk { goodGeometry with lx := 240001 } = false
      ∧ geometryOk { goodGeometry with xmin := 240000, lx := 240000 } = false
      ∧ (loaded State.reset).travelWith goodGeometry = none
      ∧ (loaded State.reset).travelWith { goodGeometry with xmax := 100000 } = some (0, 0)
      ∧ (loaded State.reset).programs.store = .loaded header steps resolved 1 :=
  ⟨takes _ rfl, by decide +kernel, by decide +kernel, by decide +kernel, by decide +kernel, by decide +kernel, rfl⟩

/-- R120, R129: steps that no encoder count follows move the commanded position, and the following error is raised. -/
theorem test_steps_without_encoder :
    let searching : AxisRec := { drive := true, state := .homing .search }
    let going : AxisRec := { drive := true, homed := true, state := .moving, target := some 4000 }
    (searching.issue (-51)).commanded = -51 ∧ (going.issue 51).commanded = 51 ∧ (going.issue 9000).commanded = 3999
      ∧ (({ going with drive := false } : AxisRec).issue 51).commanded = 0
      ∧ (let s := State.reset.setAxis .x (searching.issue (-51))
        let t : State := { s with table := { s.table with geometry := { goodGeometry with following := 50 } } }
        (t.judgeFollow .x).table.followError = true) := by decide +kernel

/-- R122: the sense of the steps in the stages of a homing; R135: the place of rest lies at the target at most. -/
theorem test_step_senses :
    let clear : AxisRec := { drive := true, state := .homing .clear }
    let search : AxisRec := { drive := true, state := .homing .search }
    let park : AxisRec := { drive := true, homed := true, state := .homing .park, target := some 300, slowing := true }
    let going : AxisRec := { drive := true, homed := true, state := .moving, target := some 4000 }
    (clear.issue 7).commanded = 7 ∧ (clear.issue (-7)).commanded = 0 ∧ (search.issue 7).commanded = 0
      ∧ (park.issue (-7)).commanded = -7 ∧ (park.issue (-7)).slowing = true
      ∧ (park.issue 7).commanded = 7 ∧ (park.issue 7).slowing = false ∧ (park.issue 301).commanded = 300
      ∧ ((park.issue 7).issue (-7)).commanded = 7 ∧ (search.edge 300).slowing = true
      ∧ (going.comeToRest 3990).commanded = 3990 ∧ (going.comeToRest 4000).commanded = 4000
      ∧ (going.comeToRest 4001).commanded = 4000 ∧ (going.comeToRest (-1)).commanded = 0 := by decide +kernel

/-- Every axis of the table homed and at rest, in RUNNING. -/
def homedTable (s : State) : State :=
  let a : AxisRec := { homed := true, drive := true, state := .idle }
  { s with table := { s.table with x := a, y := a, r := a } }

/-- The head waits with the entry held, and the table is wanted for it. -/
def wanted : State := headIn .wait (some held) (loaded (homedTable (boarded .inHead .running)))

def settling : State :=
  let a : AxisRec := { homed := true, drive := true, state := .settling, target := some 0 }
  { State.reset with table := { State.reset.table with x := a, y := a, r := a, purpose := some .load, settle := some 8 } }

/-- A move kept at a STOP. -/
def kept (p : Purpose) (s : State) : State := { s with table := { s.table with kept := some p } }

/-- The table positioned for the load position, the X axis 7 counts away from its target. -/
def departed : State :=
  let a : AxisRec := { homed := true, drive := true, state := .inPosition, target := some 0 }
  { State.reset with table := { State.reset.table with
      x := { a with counter := 7 }, y := a, r := a, purpose := some .load, positioned := true
      geometry := { goodGeometry with window := 6, following := 50 } } }

/-- R132: the departure from the window, and R129: the following error above the limit in the same event. -/
theorem test_departure :
    departed.judgeDeparture.table.x.state = .settling ∧ departed.judgeDeparture.table.positioned = false
      ∧ departed.judgeDeparture.table.y.state = .inPosition
      ∧ (let s := departed.setAxis .x { departed.table.x with counter := 51 }
        (s.judgeDeparture.judgeFollow .x).table.followError = true)
      ∧ (let s := departed.setAxis .x { departed.table.x with counter := 50 }
        (s.judgeDeparture.judgeFollow .x).table.followError = false) := by decide +kernel

/-- The X axis parks a number of counts from its target, with a settle time of the geometry. -/
def parking (off : Int) (settle : Nat) : State :=
  let s := axisIn .x (.homing .park) (some 240000) State.reset
  let t := s.setAxis .x { s.axis .x with counter := 240000 - off }
  { t with table := { t.table with geometry := { goodGeometry with settle := settle } } }

/-- R122: the window and the settle time at the park of a homing. -/
theorem test_park :
    ((parking 6 8).judgePark .x).table.x.parked = some 0 ∧ ((parking 7 8).judgePark .x).table.x.parked = none
      ∧ ((parking 6 0).judgePark .x).table.x.state = .inPosition
      ∧ ((parking 7 0).judgePark .x).table.x.state = .homing .park := by decide +kernel

theorem test_witness_tableMoves :
    ((kept (.entry ⟨1, 0⟩) wanted).entryMoveDue = some ⟨1, 0⟩ ∧ (kept (.entry ⟨1, 1⟩) wanted).entryMoveDue ≠ some ⟨1, 1⟩
        ∧ (kept .load wanted).entryMoveDue = some ⟨1, 0⟩ ∧ (kept .load (lineAt .running)).entryMoveDue = none
        ∧ State.reset.table.kept = none ∧ State.reset.table.purpose = none ∧ departed.table.purpose ≠ none)
      ∧ (settling.table.maySettle = true ∧ State.reset.table.maySettle = false
        ∧ settling.table.settle = some 8 ∧ settling.table.geometry.settle ≤ 8)
      ∧ (wanted.entryMoveDue = some ⟨1, 0⟩ ∧ wanted.entry? ⟨1, 0⟩ = some (entryOf .inHead (.check check) none)
        ∧ wanted.programs.store.header? = some header
        ∧ wanted.programs.store.steps[0]? = some ⟨1, 0, 100, 20000, 15000, 0⟩)
      ∧ ({ homedTable (lineAt .running) with
          table := { (homedTable (lineAt .running)).table with loadRequest := true } } : State).loadMoveDue = true
      ∧ (((axisIn .span .moving (some 4000) State.reset).axis .span).state = .moving
        ∧ (axisIn .span .moving (some 4000) State.reset).head.keptSpan = none
        ∧ ((axisIn .span .moving (some 4000) State.reset).axis .span).target = some 4000)
      ∧ (((axisIn .x .moving (some 4000) State.reset).axis .x).state = .moving
        ∧ ((axisIn .x .moving (some 4000) State.reset).axis .x).target = some 4000
        ∧ (axisIn .x .moving (some 4000) State.reset).table.inFlight = false)
      ∧ ((0 : Int) ≤ 4000 ∧ (4000 : Int) ≤ 4000 ∧ (-4000 : Int) ≤ -1 ∧ (-1 : Int) ≤ 0)
      ∧ settling.positionDue = true
      ∧ (kept .load (homedTable (lineAt .running))).entryMoveDue = none
      ∧ (((parking 6 8).axis .x).state = .homing .park ∧ goodGeometry.window = 6 ∧ (parking 7 8).table.geometry.settle ≠ 0
        ∧ (parking 6 0).table.geometry.settle = 0)
      ∧ (State.reset.axis .x).counter + (if true then 1 else -1) ≤ 2147483647 := by decide +kernel

/-- R143 and R145: an axis that has left its window is in no span move, and one starts. -/
theorem test_span_restart :
    (let s := axisIn .span .settling (some 4000) (headIn .wait (some held) (lineAt .running))
     let moving : State := { s with head := { s.head with spanMoving := true } }
     s.judgeSpanMove.head.spanMoving = true ∧ (s.judgeSpanMove.watch .span).state = .running
        ∧ moving.judgeSpanMove = moving) := by decide +kernel

/-- The span axis in a state, at its target and 5 counts away from it. -/
def spanAt (st : AxisState) (counter : Int) : State :=
  State.reset.setAxis .span { homed := true, drive := true, state := st, target := some 2000, counter := counter }

theorem test_witness_spanMoves :
    (spanAt .settling 2004).head.span.inWindow 4 = true ∧ (spanAt .settling 2005).head.span.inWindow 4 = false
      ∧ (spanAt (.homing .park) 1996).head.span.inWindow 4 = true ∧ (spanAt .inPosition 1995).head.span.inWindow 4 = false
      ∧ (spanAt .inPosition 2000).head.span.inWindow 4 = true ∧ (spanAt .idle 0).head.span.state ≠ .settling
      ∧ State.reset.head.held = none := by decide +kernel

theorem test_witness_pickAndForm :
    (headIn .top none (placed 96 .verified .verified)).pickDue = true
      ∧ (headIn .pickStroke none (placed 96 .verified .verified)).head.state = .pickStroke
      ∧ ((placed 96 .verified .verified).pocket ((placed 96 .verified .verified).pocketAt 96)).entry = some ⟨1, 0⟩
      ∧ (placed 96 .verified .verified).entry? ⟨1, 0⟩ = some (entryOf .verified (.check check) (some 96))
      ∧ (State.reset.pocket (State.reset.pocketAt 96)).entry = none
      ∧ (headIn .form (some held) State.reset).head.state = .form
      ∧ (axisIn .span .inPosition (some 4000) (headIn .pickSpanWait (some held) State.reset)).head.spanAt (100 * 40)
          = true := by decide +kernel

/-- Head, table and span axis ready for the drive. -/
def drivable : State :=
  let s := axisIn .span .inPosition (some 4000) (headIn .wait (some held) (boarded .inHead .running))
  { s with table := { s.table with positioned := true, purpose := some (.entry ⟨1, 0⟩) } }

theorem test_witness_drive :
    drivable.driveDue = true ∧ drivable.head.held = some held
      ∧ (headIn (.drive true false) (some held) State.reset).head.state = .drive true false
      ∧ (headIn (.drive true true) (some held) State.reset).head.state = .drive true true
      ∧ (headIn .clinch (some held) State.reset).head.state = .clinch
      ∧ (∀ l r, State.reset.head.state ≠ .drive l r) ∧ State.reset.head.state ≠ .clinch
      ∧ drivable.entry? ⟨1, 0⟩ = some (entryOf .inHead (.check check) none)
      ∧ (boarded .verified .running).entry? ⟨1, 0⟩ = some (entryOf .verified (.check check) none)
      ∧ EntryStatus.verified ≠ .inHead :=
  ⟨by decide +kernel, rfl, rfl, rfl, rfl, fun _ _ h => (by cases h), by decide, rfl, rfl, by decide⟩

/-- The head in a state with its input pins made. -/
def pinned (h : HeadState) : State :=
  { headIn h none State.reset with pins := { State.reset.pins with headTop := true, jawsOpen := true } }

theorem test_witness_recovery :
    (∀ src air, (headIn .wait none State.reset).head.state ≠ .halted src air)
      ∧ (headIn (.halted .drive true) none State.reset).head.state = .halted .drive true
      ∧ (headIn (.halted .pickSpanWait false) (some held) State.reset).head.state = .halted .pickSpanWait false :=
  ⟨fun _ _ h => (by cases h), rfl, rfl⟩

/-- R154: jaw air comes back on, and a head halted from FORM goes on with FORM. -/
theorem test_recovery :
    (headIn (.halted .form false) (some held) State.reset).recoverHead.head.state = .form
      ∧ (headIn (.halted .form false) (some held) State.reset).recoverHead.head.outputs.jawAir = true
      ∧ (headIn (.halted .form true) none State.reset).recoverHead.head.state = .rise
      ∧ (headIn .wait (some held) State.reset).recoverHead.head.outputs.jawAir = true := by decide +kernel

/-- In RECOVERING, halted from SPAN_WAIT with an unowned component and a kept span move. -/
def unownedHalt (kept : Option Int) : State :=
  let s : State := axisIn .span .idle (some 4000) (headIn (.halted .pickSpanWait false) none (lineAt .recovering))
  { s with head := { s.head with unowned := true, keptSpan := kept } }

/-- R154: the kept span move comes first, and DISCARD in place of FORM once it has ended. -/
theorem test_recovery_unowned :
    let t := (unownedHalt (some 5000)).recoverHead
    (t.head.state = .pickSpanWait ∧ t.head.spanMoving = true ∧ t.head.keptSpan = none ∧ t.judgeForm = t
        ∧ t.spanArrived.judgeForm.head.state = .discard)
      ∧ (unownedHalt none).recoverHead.judgeForm.head.state = .discard := by decide +kernel

theorem test_witness_return :
    ({ headIn .wait none (lineAt .running) with
        head := { (headIn .wait none (lineAt .running)).head with unowned := true } } : State).discardDue = true ∧
    ((pinned .rise).head.state = .rise ∧ (pinned .rise).pins.headTop = true ∧ (pinned .rise).head.clinch = .retracted)
      ∧ ({ pinned .rise with head := { (pinned .rise).head with clinch := .retracting } } : State).head.clinch
          = .retracting
      ∧ State.reset.head.clinch ≠ .retracting ∧ State.reset.head.state = .halted .reset false
      ∧ (∀ air, (pinned .rise).head.state ≠ .halted .reset air)
      ∧ (let s := { headIn .wait none (lineAt .running) with head := { (headIn .wait none (lineAt .running)).head with unowned := true } }
        s.line = .running ∧ s.head.state = .wait ∧ s.head.unowned = true)
      ∧ ((pinned .discard).head.state = .discard ∧ (pinned .discard).pins.jawsOpen = true) :=
  ⟨by decide, ⟨rfl, rfl, rfl⟩, rfl, by decide, rfl, fun _ h => (by cases h), ⟨rfl, rfl, rfl⟩, rfl, rfl⟩

/-! ## Witnesses: the conveyor, the inputs and the line -/

/-- A board waiting, the table at the load position. -/
def loadable : State :=
  withBoard (boardOf .pending .bypass none .waiting) (homedTable (lineAt .running))

theorem test_witness_conveyor :
    loadable.loadDue = true ∧ loadable.boards.active = some (boardOf .pending .bypass none .waiting)
      ∧ loadable.pins.entrySensor = false
      ∧ ({ loadable with pins := { loadable.pins with entrySensor := true } } : State).loadDue = true
      ∧ (convIn .entryWait (some 1) loadable).conveyor.board = some 1
      ∧ (convIn (.entryRun false false) (some 1) loadable).conveyor.state = .entryRun false false
      ∧ (convIn (.entryRun true false) (some 1) loadable).conveyor.state = .entryRun true false
      ∧ (convIn .clamping (some 1) loadable).conveyor.state = .clamping
      ∧ (let s := convIn .clamped (some 1) (headIn .top none (lineAt .running))
        ({ s with conveyor := { s.conveyor with unloadRequest := true } } : State).unloadDue = true)
      ∧ (convIn .unclamping (some 1) loadable).conveyor.state = .unclamping
      ∧ ((convIn .tableWait (some 1) loadable).conveyor.state = .tableWait
        ∧ (convIn .tableWait (some 1) loadable).table.atLoad = true
        ∧ (convIn .tableWait (some 1) loadable).line = .running)
      ∧ (convIn (.unloading false true) (some 1) loadable).conveyor.state = .unloading false true
      ∧ (convIn .tableWait (some 1) loadable).exitRunDue = true
      ∧ ((convIn .entryWait (some 1) loadable).conveyor.state = .entryWait
        ∧ (convIn .entryWait (some 2) loadable).conveyor.board ≠ some 1
        ∧ (convIn .entryWait (some 1) (lineAt .running)).boards.active = none) := by decide +kernel

/-- R159, R162: a load and an unload start in the event that makes them due, a RUN among them. -/
theorem test_conveyor_starts :
    (∃ t, exec (.run 1#8) (inLine .held loadable) = .next t ∧ t.conveyor.state = .entryWait)
      ∧ (let s := convIn .clamped (some 1) (headIn .top none (boarded .missed .held))
        ∃ t, exec (.run 1#8) s = .next t ∧ t.conveyor.state = .unclamping) :=
  ⟨⟨_, rfl, by decide +kernel⟩, ⟨_, rfl, by decide +kernel⟩⟩

/-- The AIR_OK input open for its debounce time. -/
def airDue : State := State.reset.setSlow .airOk ⟨false, 1000, .made⟩

theorem test_witness_inputs :
    State.reset.takesAtOnce ∧ airDue.arrivalDue .airOk = true ∧ (State.reset.slow .airOk).raw ≠ true
      ∧ (State.reset.setSlow .airOk ⟨true, 0, .unknown⟩).arrivalDue .airOk = false
      ∧ (let s : State := { State.reset with inputs := { State.reset.inputs with tapeTime := 0 } }
        (s.slow (.tape 79)).raw ≠ true ∧ (s.setSlow (.tape 79) ⟨true, 0, .unknown⟩).arrivalDue (.tape 79) = true)
      ∧ ((coded .ready false State.reset).station 2).state = .ready ∧ (State.reset.slow (.tape 2)).raw = false
      ∧ State.reset.inputs.estop = false
      ∧ ({ State.reset with inputs := { State.reset.inputs with estop := true } } : State).inputs.estop = true :=
  ⟨takes _ rfl, by decide +kernel, by decide, by decide, by decide +kernel, by decide +kernel, by decide +kernel, rfl,
    rfl⟩

/-- The emergency stop: each state of the jaws, of the measurement and of the conveyor that it finds. -/
theorem test_witness_estop :
    let driving := headIn (.drive true false) (some held) (boarded .inHead .running)
    let clinching := headIn .clinch (some held) (boarded .inHead .stopped)
    let running := (convIn (.entryRun false true) (some 1) (lineAt .held)).setWatch .conveyor ⟨.running, 9⟩
    (driving.inputs.estop = false ∧ driving.head.held = some held ∧ driving.line ≠ .stopped
        ∧ driving.entry? held.ref = some (entryOf .inHead (.check check) none))
      ∧ (clinching.inputs.estop = false ∧ clinching.line = .stopped
        ∧ clinching.entry? held.ref = some (entryOf .inHead (.check check) none))
      ∧ ((headIn .wait (some held) (boarded .verified .running)).entry? held.ref
        = some (entryOf .verified (.check check) none) ∧ EntryStatus.verified ≠ .inHead)
      ∧ ((measuring .loaded).inputs.estop = false ∧ (measuring .loaded).verifier.flight.isSome = true)
      ∧ (running.inputs.estop = false ∧ running.line ≠ .stopped ∧ running.conveyor.state = .entryRun false true
        ∧ (running.watch .conveyor).state = .running)
      ∧ (convIn (.unloading false true) (some 1) (lineAt .held)).conveyor.state = .unloading false true := by
  decide +kernel

/-- The watches that run at an emergency stop and at a STOP, with an index in flight and a table move in flight. -/
theorem test_witness_halts :
    let s := boarded .inHead .running
    let moving : State := { s with
      chain := { s.chain with index := .inFlight }, table := { s.table with inFlight := true } }
    let t := [WatchId.chain, .gate, .head, .span, .table].foldl (fun u w => State.setWatch u w ⟨.running, 9⟩) moving
    t.inputs.estop = false ∧ t.chain.index = .inFlight ∧ t.line ≠ .stopped
      ∧ (∀ w ∈ [WatchId.chain, .gate, .head, .span, .table], (t.watch w).state = .running)
      ∧ (t.watch .conveyor).state ≠ .running
      ∧ t.estopArrive.watch .chain = ⟨.idle, 0⟩ ∧ t.estopArrive.watch .gate = ⟨.running, 9⟩
      ∧ t.estopArrive.watch .span = ⟨.idle, 0⟩ := by decide +kernel

/-- R153: the component in the jaws is HALTED with the mark of a clinch, and the measurement is abandoned. -/
theorem test_estop :
    (∃ t, exec .estopArrival (headIn .clinch (some held) (boarded .inHead .running)) = .next t
        ∧ (t.entry? held.ref).map (fun e => (e.status, e.cause, e.unclinched)) = some (.failedOpen, some .halted, true))
      ∧ ∃ t, exec .estopArrival (measuring .loaded) = .next t ∧ t.verifier.flight = none
        ∧ t.verifier.counts.abandoned = 1 :=
  ⟨⟨_, rfl, by decide +kernel⟩, ⟨_, rfl, by decide +kernel, by decide +kernel⟩⟩

/-- The head waits for its board, with board wait not yet set, set, and no longer wanted. -/
theorem test_witness_headWait :
    let s := headIn .wait (some held) (withBoard (boardOf .inHead .bypass none .waiting) (lineAt .running))
    let set (u : State) : State := { u with head := { u.head with boardWait := true } }
    (s.head.state = .wait ∧ s.head.held.map (·.ref) = some ⟨1, 0⟩ ∧ s.head.boardWait = false
        ∧ s.board? 1 = some (boardOf .inHead .bypass none .waiting))
      ∧ (set s).head.boardWait = true
      ∧ ((set State.reset).head.state ≠ .wait ∧ (set State.reset).head.boardWait = true)
      ∧ (State.reset.head.state ≠ .wait ∧ State.reset.head.boardWait = false) := by decide +kernel

theorem test_witness_watches :
    (∀ w, (State.reset.setWatch w ⟨.running, 0⟩).expiring w = true)
      ∧ (State.reset.setWatch .gate ⟨.expired, 0⟩).watch .gate = ⟨.expired, 0⟩
      ∧ (State.reset.setBoardWait .transport (some ⟨false, 0, 1, none⟩)).inputs.transportWait = some ⟨false, 0, 1, none⟩
      ∧ (State.reset.setBoardWait .head (some ⟨false, 0, 1, some 0⟩)).inputs.headWait = some ⟨false, 0, 1, some 0⟩ :=
  ⟨fun w => by cases w <;> decide, rfl, rfl, rfl⟩

theorem test_witness_alarms :
    AlarmClass.warn ≠ .none ∧ (lineAt .running).takesAtOnce ∧ (lineAt .running).line = .running ∧ (lineAt .held).takesAtOnce
      ∧ (lineAt .held).line ≠ .running ∧ (lineAt .held).line ≠ .holding ∧ (3 < 4 ∨ 3 < 0) ∧ (3 < 0 ∨ 3 < 4)
      ∧ AlarmClass.none.num = 0 ∧ 2 ^ 21 ≤ 2097152 ∧ 2097151 < 2 ^ 21 ∧ State.reset.takesAtOnce :=
  ⟨by decide, takes _ rfl, rfl, takes _ rfl, by decide, by decide, by decide, by decide, rfl, by decide, by decide,
    takes _ rfl⟩

/-- ESTOP pending, its condition present. -/
def alarmed (l : LineState) : State :=
  { (lineAt l).setSource .estop ⟨true, .stop, 1, {}, true⟩ with inputs := { State.reset.inputs with estop := true } }

/-- R14, R192: an interrupted index is started again, an index at rest ends the chain's part, and both parts end recovery. -/
theorem test_recovery_of_index :
    let at' (i : IndexState) (p : Option RecoveryParts) : State :=
      let s := headIn .top none (lineAt .recovering)
      { s with
        chain := { s.chain with index := i }
        alarms := { s.alarms with line := { s.alarms.line with recovery := p } } }
    (at' .interrupted none).recoverIndex.chain.index = .inFlight
      ∧ (at' .interrupted none).recoverIndex.watch .chain = ⟨.running, 250⟩
      ∧ (at' .inFlight none).recoverIndex = at' .inFlight none
      ∧ (at' .inFlight (some ⟨false, false⟩)).judgeRecovery.alarms.line.recovery = some ⟨false, true⟩
      ∧ (at' .idle (some ⟨false, false⟩)).judgeRecovery.alarms.line.recovery = none
      ∧ (at' .idle (some ⟨false, false⟩)).judgeRecovery.line = .unready
      ∧ (at' .idle none).judgeRecovery = at' .idle none := by decide +kernel

/-- R152: a STOP during a clinch gives up the component, stops the clinch stroke and halts the HEAD watch. -/
theorem test_stop_in_clinch :
    let s := headIn .clinch (some held) (boarded .inHead .running)
    let u := State.setWatch { s with head := { s.head with clinch := .stroking .inward } } .head ⟨.running, 9⟩
    let t := u.enterStopped (.command .stop)
    (t.entry? held.ref).map (fun e => (e.status, e.cause, e.unclinched)) = some (.failedOpen, some .halted, true)
      ∧ t.head.counts.failedOpen = 1 ∧ t.head.clinch = .stopped (some .inward) ∧ t.watch .head = ⟨.idle, 0⟩ := by
  decide +kernel

/-- The states that the entry into STOPPED and the notices of readiness find. -/
theorem test_witness_stopping :
    ((headIn .clinch (some held) (boarded .inHead .running)).entry? held.ref
          = some (entryOf .inHead (.check check) none)
        ∧ (headIn .clinch (some held) (boarded .verified .running)).entry? held.ref
          = some (entryOf .verified (.check check) none)
        ∧ (headIn .clinch none State.reset).head.held = none)
      ∧ (settling.table.inFlight = false ∧ (settling.axis .x).state = .settling ∧ (settling.axis .x).isHoming = false)
      ∧ ((axisIn .x (.homing .clear) none State.reset).axis .x).isHoming = true
      ∧ (State.reset.alarms.line.programLoaded = false ∧ State.reset.line = .unready ∧ (lineAt .held).line = .held) := by
  decide +kernel

theorem test_witness_line :
    ((lineAt .ready).takesAtOnce ∧ (lineAt .ready).line = .ready)
      ∧ ((alarmed .held).takesAtOnce ∧ (alarmed .held).line = .held ∧ (alarmed .held).seriousPending .estop = true)
      ∧ (∀ src, (lineAt .ready).seriousPending src = false)
      ∧ ((lineAt .stopped).line = .stopped ∧ (lineAt .stopped).takesAtOnce ∧ (lineAt .running).takesAtOnce)
      ∧ ((alarmed .stopped).line = .stopped ∧ (alarmed .stopped).levelCondition .estop = true)
      ∧ (∀ src, (lineAt .stopped).levelCondition src = false)
      ∧ (let s := (headIn .top none (lineAt .holding)).setPocket 90 ⟨.empty, none, none, none, none⟩
        s.line = .holding ∧ s.quiescent = true)
      ∧ (let s := headIn .wait none (lineAt .recovering)
        let t : State := { s with alarms := { s.alarms with line := { s.alarms.line with recovery := some ⟨false, false⟩ } } }
        t.line = .recovering ∧ t.alarms.line.recovery = some ⟨false, false⟩ ∧ t.chain.index = .idle
          ∧ t.headRecovered = true) := by
  refine ⟨⟨takes _ rfl, rfl⟩, ⟨takes _ rfl, rfl, by decide⟩, fun src => by cases src <;> decide,
    ⟨rfl, takes _ rfl, takes _ rfl⟩, ⟨rfl, rfl⟩, fun src => by cases src <;> decide, ⟨rfl, by decide +kernel⟩, rfl, rfl, rfl,
    by decide⟩

end Sys2Proof.Tests
end

/-! PROOFS. The sequence chain (chapter 1): what each condition of the chain says of the state it is judged from. -/

namespace Sys2Proof.Machine

/-! ## Tables seen as lists -/

theorem mem_toList_iff_vget {α : Type} {n : Nat} {v : Vector α n} {a : α} : a ∈ v.toList ↔ ∃ i, vget v i = a := by
  rw [Vector.mem_toList_iff, Vector.mem_iff_getElem]
  exact ⟨fun ⟨i, hi, h⟩ => ⟨⟨i, hi⟩, h⟩, fun ⟨i, h⟩ => ⟨i.val, i.isLt, h⟩⟩

theorem any_toList_iff_vget {α : Type} {n : Nat} {v : Vector α n} {p : α → Bool} :
    v.toList.any p = true ↔ ∃ i, p (vget v i) = true := by
  simp only [List.any_eq_true, mem_toList_iff_vget, exists_exists_eq_and]

theorem countP_ne_zero_iff {α : Type} {l : List α} {p : α → Bool} : l.countP p ≠ 0 ↔ ∃ a ∈ l, p a = true := by
  rw [← Nat.pos_iff_ne_zero, List.countP_pos_iff]

/-! ## The index-hold set (R9) -/

theorem State.working_iff {s : State} : s.working = true ↔ s.line = .running ∨ s.line = .holding := by
  simp [State.working]

theorem State.assignedAt_iff {s : State} {k : Fin 80} :
    s.assignedAt k = true ↔ (s.pocket (s.pocketAt (stationPosition k))).state = .assigned
      ∧ (s.pocket (s.pocketAt (stationPosition k))).station = some k := by
  simp [State.assignedAt]

theorem State.firesDue_ne_zero_iff {s : State} :
    s.firesDue ≠ 0 ↔ s.working = true ∧ ∃ k, s.assignedAt k = true := by
  simp only [State.firesDue, countP_ne_zero_iff, List.mem_finRange, true_and, State.fireDue, Bool.and_eq_true,
    exists_and_left]

theorem State.dwellsRunning_ne_zero_iff {s : State} :
    s.dwellsRunning ≠ 0 ↔ ∃ k, (s.fireUnit k).dwell.isSome = true := by
  simp only [State.dwellsRunning, countP_ne_zero_iff, mem_toList_iff_vget, exists_exists_eq_and, State.fireUnit]

theorem State.holdFire_iff {s : State} :
    s.holdFire = true ↔ (s.working = true ∧ ∃ k, s.assignedAt k = true) ∨ ∃ k, (s.fireUnit k).dwell.isSome = true := by
  rw [← State.firesDue_ne_zero_iff, ← State.dwellsRunning_ne_zero_iff]
  simp [State.holdFire]

theorem State.holdVerify_iff {s : State} :
    s.holdVerify = true ↔
      s.working = true ∧ (s.pocket (s.pocketAt 88)).state = .loaded ∨ s.verifier.flight.isSome = true := by
  simp [State.holdVerify, State.verifyWanted]

theorem PocketState.dumped_iff {p : PocketState} : p.dumped = true ↔ p = .rejected ∨ p = .orphan ∨ p = .unknown := by
  cases p <;> simp [PocketState.dumped]

theorem State.holdGate_iff {s : State} :
    s.holdGate = true ↔
      s.working = true ∧ (s.pocket (s.pocketAt 90)).state.dumped = true ∨ s.chain.gateStroke.isSome = true := by
  simp [State.holdGate, State.gateWanted]

theorem State.holdTransfer_iff {s : State} :
    s.holdTransfer = true ↔
      s.working = true ∧ (s.pocket (s.pocketAt 96)).state = .verified ∨ s.head.state = .pickStroke := by
  simp [State.holdTransfer, State.verifiedAtTransfer]

theorem State.holdEmpty_iff {s : State} :
    s.holdEmpty = true ↔
      s.holdFire = false ∧ s.holdVerify = false ∧ s.holdGate = false ∧ s.holdTransfer = false := by
  simp [State.holdEmpty, and_assoc]

/-- The reset leaves the line UNREADY with no dwell, measurement, gate stroke or pick stroke in flight, so that no reason of
R9 stands. -/
theorem State.reset_holdEmpty : State.reset.holdEmpty = true := by
  have idle : State.reset.working = false := rfl
  have noDwell : ∀ k, (State.reset.fireUnit k).dwell = none := fun k =>
    congrArg FireUnit.dwell (vget_replicate ({} : FireUnit) k)
  have noFlight : State.reset.verifier.flight = none := rfl
  have noStroke : State.reset.chain.gateStroke = none := rfl
  have noPick : State.reset.head.state ≠ .pickStroke := by decide
  simp [State.holdEmpty_iff, ← Bool.not_eq_true, State.holdFire_iff, State.holdVerify_iff, State.holdGate_iff,
    State.holdTransfer_iff, idle, noDwell, noFlight, noStroke, noPick]

/-! ## Work present and the index request (R10, R11) -/

theorem State.workPresent_iff {s : State} :
    s.workPresent = true ↔
      (∃ p, (s.pocket p).state ≠ .empty) ∨ (s.candidate.isSome = true ∧ s.wait = .none) := by
  rw [State.workPresent, Bool.or_eq_true, any_toList_iff_vget]
  simp [State.pocket]

theorem State.indexDue_iff {s : State} :
    s.indexDue = true ↔
      s.chain.index = .idle ∧ s.line = .running ∧ s.workPresent = true ∧ s.holdEmpty = true := by
  simp [State.indexDue, State.running, and_assoc]

/-- Settles O31: each reason of the hold set, work present and the index condition by its own rule. -/
theorem holdSetAndWork : Obligations.HoldSetAndWork := by
  refine ⟨State.holdEmpty_iff.mp State.reset_holdEmpty, fun s => ⟨?fire, ?verify, ?gate, ?transfer, ?work, ?index⟩⟩
  case fire =>
    rw [State.holdFire_iff, State.working_iff]
    simp only [State.assignedAt_iff, stationPosition]
  case verify => rw [State.holdVerify_iff, State.working_iff]
  case gate => rw [State.holdGate_iff, State.working_iff, PocketState.dumped_iff]
  case transfer => rw [State.holdTransfer_iff, State.working_iff]
  case work => exact State.workPresent_iff
  case index => rw [State.indexDue_iff, State.holdEmpty_iff]

end Sys2Proof.Machine

/-! PROOFS. The stations (chapter 2): the reply of a command that is taken at once, what a change of a station's state leaves as
it is, and the station commands. -/

namespace Sys2Proof.Machine

/-! ## A command taken at once (R199) -/

theorem State.command_of_takesAtOnce {s : State} (h : s.takesAtOnce) (i : Instr) (kind tag : Byte) :
    s.command i kind tag = s.countAccepted.answer kind tag (act i) := by
  obtain ⟨noneWaits, room, noReset⟩ := h
  simp [State.command, State.takes, noneWaits, room, noReset]

/-- A command taken at once leaves the state of its owner's action, with the reply at the tail of the output queue. -/
theorem answers_of_act {s u : State} {i : Instr} {kind reply tag : Byte} {payload : List Byte} {a : Answer}
    (taken : s.takesAtOnce) (row : exec i s = .next (s.command i kind tag)) (acted : act i s.countAccepted = (u, a))
    (sum : kind + 0x80#8 = reply) (bytes : a.payload = payload) : Answers i s u reply tag payload := by
  rw [Answers, row, State.command_of_takesAtOnce taken, State.answer, acted, ← sum, ← bytes]
  rfl

theorem State.countAccepted_station (s : State) (k : Fin 80) : s.countAccepted.station k = s.station k := by
  simp [State.station]

theorem stationOf_val (k : Fin 80) : stationOf k.val = some k := by simp [stationOf]

theorem stationOf_of_gt {n : Nat} (h : 79 < n) : stationOf n = none := by simp [stationOf]; omega

/-! ## A change of a station's state (R44, R45) -/

@[simp] theorem State.setStation_station (s : State) (k j : Fin 80) (r : Station) :
    (s.setStation k r).station j = if j = k then r else s.station j := by
  split
  · next h => subst h; exact s.station_setStation j r
  · next h => exact s.station_setStation_other k j r h

@[simp] theorem State.modifyCode_station (s : State) (n : Nat) (f : CodeRecord → CodeRecord) (j : Fin 80) :
    (s.modifyCode n f).station j = s.station j := rfl

@[simp] theorem State.reportChangeover_station (s : State) (n : Nat) (a b : Option (Fin 80)) (j : Fin 80) :
    (s.reportChangeover n a b).station j = s.station j := by simp [State.reportChangeover, State.station]

@[simp] theorem State.changeover_station (s : State) (k j : Fin 80) : (s.changeover k).station j = s.station j := by
  unfold State.changeover
  repeat' split
  all_goals simp

@[simp] theorem State.takeover_station (s : State) (k j : Fin 80) : (s.takeover k).station j = s.station j := by
  unfold State.takeover
  repeat' split
  all_goals simp

/-- A change of state writes the record of its station, and changeover and takeover write none. -/
@[simp] theorem State.moveStation_station (s : State) (k j : Fin 80) (new : StationState) :
    (s.moveStation k new).station j = if j = k then { s.station k with state := new } else s.station j := by
  unfold State.moveStation
  dsimp only
  repeat' split
  all_goals simp [*]

@[simp] theorem State.judge_station (s : State) (k : Fin 80) : s.judge.station k = s.station k := by
  obtain ⟨u, before, after⟩ := s.judge_steady
  obtain ⟨_, _, started, -⟩ := u.startStroke_keeps
  have same : s.judge.stations = s.stations := (after.stations.trans started.stations).trans before.stations
  simp only [State.station, same]

/-! ## The station commands (R29 to R32) -/

theorem actLoadStation_badNumber {n count low : Nat} (h : 79 < n) (s : State) :
    actLoadStation n count low s = s.refuses .badValue := by simp [actLoadStation, stationOf_of_gt h]

theorem actLockStation_badNumber {n : Nat} (h : 79 < n) (s : State) : actLockStation n s = s.refuses .badValue := by
  simp [actLockStation, stationOf_of_gt h]

theorem actUnlockStation_badNumber {n : Nat} (h : 79 < n) (s : State) : actUnlockStation n s = s.refuses .badValue := by
  simp [actUnlockStation, stationOf_of_gt h]

theorem actResetStation_badNumber {n : Nat} (h : 79 < n) (s : State) : actResetStation n s = s.refuses .badValue := by
  simp [actResetStation, stationOf_of_gt h]

/-- The reply item of an accepted station command is the state that the action gave the station: the end of the event changes
no station. -/
theorem stationReply_judge (k : Fin 80) (s : State) : stationReply k s.judge = u8 (s.station k).state.num := by
  simp [stationReply]

section
variable {s : State} {k : Fin 80} {tag : Byte}

theorem loadStation_answers {n count low : Nat} {u : State} {a : Answer} {payload : List Byte} (taken : s.takesAtOnce)
    (acted : actLoadStation n count low s.countAccepted = (u, a)) (bytes : a.payload = payload) :
    Answers (.loadStation tag n count low) s u 0x83#8 tag payload := answers_of_act taken rfl acted rfl bytes

theorem lockStation_answers {n : Nat} {u : State} {a : Answer} {payload : List Byte} (taken : s.takesAtOnce)
    (acted : actLockStation n s.countAccepted = (u, a)) (bytes : a.payload = payload) :
    Answers (.lockStation tag n) s u 0x84#8 tag payload := answers_of_act taken rfl acted rfl bytes

theorem unlockStation_answers {n : Nat} {u : State} {a : Answer} {payload : List Byte} (taken : s.takesAtOnce)
    (acted : actUnlockStation n s.countAccepted = (u, a)) (bytes : a.payload = payload) :
    Answers (.unlockStation tag n) s u 0x85#8 tag payload := answers_of_act taken rfl acted rfl bytes

theorem resetStation_answers {n : Nat} {u : State} {a : Answer} {payload : List Byte} (taken : s.takesAtOnce)
    (acted : actResetStation n s.countAccepted = (u, a)) (bytes : a.payload = payload) :
    Answers (.resetStation tag n) s u 0x86#8 tag payload := answers_of_act taken rfl acted rfl bytes

/-- LOAD_STATION of a station (R29): refused in READY and LOCKING and without tape; LOCKED stays, and any other state
becomes READY. -/
theorem loadStation_station {count low : Nat} (taken : s.takesAtOnce) (h1 : 1 ≤ count) (h2 : count ≤ 65535)
    (h3 : low ≤ 65535) :
    if (s.station k).state = .ready ∨ (s.station k).state = .locking then
      Answers (.loadStation tag k.val count low) s s.countAccepted 0x83#8 tag [0x04#8]
    else if (s.station k).tape = false then
      Answers (.loadStation tag k.val count low) s s.countAccepted 0x83#8 tag [0x0D#8]
    else
      let u := s.countAccepted.setStation k { s.station k with
        reel := count, load := count, low := low, lowArmed := decide (low ≠ 0 ∧ low < count), underrun := false
        failRun := 0 }
      if (s.station k).state = .locked then
        Answers (.loadStation tag k.val count low) s u.judge 0x83#8 tag [0x00#8, 0x04#8]
      else
        Answers (.loadStation tag k.val count low) s (u.moveStation k .ready).judge 0x83#8 tag [0x00#8, 0x01#8] := by
  have inRange : (!within 1 65535 count || decide (65535 < low)) = false := by simp [within]; omega
  split
  case isTrue busy =>
    exact loadStation_answers taken (a := { code := .wrongState })
      (by simp only [actLoadStation, stationOf_val, State.countAccepted_station, inRange, busy, State.refuses]; rfl) rfl
  case isFalse free =>
    split
    case isTrue bare =>
      exact loadStation_answers taken (a := { code := .noTape })
        (by simp only [actLoadStation, stationOf_val, State.countAccepted_station, inRange, free, bare, State.refuses]; rfl)
        rfl
    case isFalse taped =>
      rw [Bool.not_eq_false] at taped
      dsimp only
      split
      case isTrue locked =>
        exact loadStation_answers taken
          (by simp only [actLoadStation, stationOf_val, State.countAccepted_station, inRange, locked, taped,
                State.accepts]; rfl)
          (by simp only [Answer.payload, stationReply_judge, State.setStation_station, if_true]; rfl)
      case isFalse unlocked =>
        exact loadStation_answers taken
          (by simp only [actLoadStation, stationOf_val, State.countAccepted_station, inRange, free, unlocked, taped,
                State.accepts, if_false]; rfl)
          (by simp only [Answer.payload, stationReply_judge, State.moveStation_station, if_true]; rfl)

end

/-- Settles O34: each command in each station state, by the owner's action on the station's record. -/
theorem stationCommands : Obligations.StationCommands := by
  intro tag k s taken
  have same : s.countAccepted.station k = s.station k := s.countAccepted_station k
  refine ⟨fun n count low bad => ⟨?_, ?_, ?_, ?_⟩, fun count low bad => ?_, fun count low h1 h2 h3 => ?_, ?lock, ?unlock, ?reset⟩
  · exact loadStation_answers taken (actLoadStation_badNumber bad _) rfl
  · exact lockStation_answers taken (actLockStation_badNumber bad _) rfl
  · exact unlockStation_answers taken (actUnlockStation_badNumber bad _) rfl
  · exact resetStation_answers taken (actResetStation_badNumber bad _) rfl
  · have outOfRange : (!within 1 65535 count || decide (65535 < low)) = true := by simp [within]; omega
    exact loadStation_answers taken (a := { code := .badValue })
      (by simp only [actLoadStation, stationOf_val, outOfRange, State.refuses, if_true]) rfl
  · exact loadStation_station taken h1 h2 h3
  case lock =>
    cases h : (s.station k).state
    case ready | empty =>
      dsimp only
      split
      all_goals
        next n =>
          exact lockStation_answers taken
            (by simp only [actLockStation, stationOf_val, same, h, n, State.accepts]; rfl)
            (by simp only [Answer.payload, stationReply_judge, State.moveStation_station, if_true]; rfl)
    case locking | locked =>
      exact lockStation_answers taken (by simp only [actLockStation, stationOf_val, same, h, State.answers]; rfl)
        (by simp only [Answer.payload, stationReply, same, h]; rfl)
    all_goals
      exact lockStation_answers taken (a := { code := .wrongState })
        (by simp only [actLockStation, stationOf_val, same, h, State.refuses]) rfl
  case unlock =>
    cases h : (s.station k).state
    case locked | locking =>
      cases t : (s.station k).tape
      all_goals
        exact unlockStation_answers taken
          (by simp only [actUnlockStation, stationOf_val, same, h, t, Station.backState, State.accepts]; rfl)
          (by simp only [Answer.payload, stationReply_judge, State.moveStation_station, if_true]; rfl)
    all_goals
      exact unlockStation_answers taken (a := { code := .wrongState })
        (by simp only [actUnlockStation, stationOf_val, same, h, State.refuses]) rfl
  case reset =>
    cases h : (s.station k).state
    case quarantined | fault =>
      cases t : (s.station k).tape
      all_goals
        exact resetStation_answers taken
          (by simp only [actResetStation, stationOf_val, same, h, t, Station.backState, State.accepts]; rfl)
          (by simp only [Answer.payload, stationReply_judge, State.moveStation_station, if_true]; rfl)
    all_goals
      exact resetStation_answers taken (a := { code := .wrongState })
        (by simp only [actResetStation, stationOf_val, same, h, State.refuses]) rfl

end Sys2Proof.Machine

/-! PROOFS. The code table and the pending-fire counts (R25, R40, R44, R45): what each operation on the stations and the pockets
does to the three laws that a step keeps together, `CodeLaw`, `PlaceLaw` and `PendingLaw`. -/

namespace Sys2Proof.Machine

/-! ## Positions and counting -/

@[simp] theorem State.positionOf_pocketAt (s : State) (q : Fin 128) : s.positionOf (s.pocketAt q) = q := by
  simp [State.positionOf, State.pocketAt]

@[simp] theorem State.pocketAt_positionOf (s : State) (p : Fin 128) : s.pocketAt (s.positionOf p) = p := by
  simp [State.positionOf, State.pocketAt]

theorem State.eq_pocketAt {s : State} {p q : Fin 128} (h : s.positionOf p = q) : p = s.pocketAt q := by
  rw [← h, State.pocketAt_positionOf]

@[simp] theorem State.setPocket_pocketAt (s : State) (p q : Fin 128) (r : Pocket) :
    (s.setPocket p r).pocketAt q = s.pocketAt q := rfl

@[simp] theorem State.setPocket_positionOf (s : State) (p q : Fin 128) (r : Pocket) :
    (s.setPocket p r).positionOf q = s.positionOf q := rfl

@[simp] theorem State.setPocket_index (s : State) (p : Fin 128) (r : Pocket) :
    (s.setPocket p r).chain.index = s.chain.index := rfl

@[simp] theorem State.setPocket_gateStroke (s : State) (p : Fin 128) (r : Pocket) :
    (s.setPocket p r).chain.gateStroke = s.chain.gateStroke := rfl

/-- One record replaced: the count loses the old record and gains the new one. -/
theorem countP_vset {α : Type} {n : Nat} (f : α → Bool) (v : Vector α n) (i : Fin n) (a : α) :
    (vset v i a).toList.countP f + (f (vget v i)).toNat = v.toList.countP f + (f a).toNat := by
  have sum : (vset v i a).toList.countP f
      = v.toList.countP f - (if f (vget v i) = true then 1 else 0) + (if f a = true then 1 else 0) := by
    rw [Vector.countP_toList, Vector.countP_toList]
    exact Vector.countP_set i.isLt
  have one (b : Bool) : (if b = true then 1 else 0) = b.toNat := by cases b <;> rfl
  have counted : (f (vget v i)).toNat ≤ v.toList.countP f := by
    cases old : f (vget v i)
    · exact Nat.zero_le _
    · exact List.countP_pos_iff.mpr ⟨_, mem_toList_iff_vget.mpr ⟨i, rfl⟩, old⟩
  rw [one, one] at sum
  omega

/-! ## The code table (R40, R44, R45) -/

/-- A code that is not starved has a READY active station, and a starved one no READY station (R40, R45). -/
def CodeRecord.served (c : CodeRecord) (s : State) : Prop :=
  if c.starved then ∀ k ∈ c.stations, (s.station k).state ≠ .ready
  else ∃ k, c.stations[c.active]? = some k ∧ (s.station k).state = .ready

theorem CodeLaw.served {s : State} (h : CodeLaw s) {c : CodeRecord} (hc : c ∈ s.stations.codes) : c.served s :=
  h.2.2.2 c hc

/-- Two records of the table with one number are one record. -/
theorem CodeLaw.unique {s : State} (h : CodeLaw s) {c d : CodeRecord} (hc : c ∈ s.stations.codes)
    (hd : d ∈ s.stations.codes) (e : c.number = d.number) : c = d := by
  have distinct : (s.stations.codes.map CodeRecord.number).Nodup :=
    List.pairwise_map.mpr (h.1.imp fun lt => Nat.ne_of_lt lt)
  exact List.inj_on_of_nodup_map distinct hc hd e

theorem State.code?_eq_some {s : State} {n : Nat} {c : CodeRecord} (h : s.code? n = some c) :
    c ∈ s.stations.codes ∧ c.number = n :=
  ⟨List.mem_of_find?_eq_some h, by simpa using List.find?_some h⟩

theorem CodeLaw.code?_of_mem {s : State} (h : CodeLaw s) {c : CodeRecord} (hc : c ∈ s.stations.codes) :
    s.code? c.number = some c := by
  cases found : s.code? c.number with
  | none => exact absurd (List.find?_eq_none.mp found c hc) (by simp)
  | some d =>
    obtain ⟨hd, e⟩ := State.code?_eq_some found
    rw [h.unique hd hc e]

/-- The owner of a station is a defined code whose list names it. -/
theorem CodeLaw.owner {s : State} (h : CodeLaw s) {k : Fin 80} {n : Nat} (own : (s.station k).owner = some n) :
    ∃ c, s.code? n = some c ∧ c ∈ s.stations.codes ∧ c.number = n ∧ k ∈ c.stations := by
  obtain ⟨c, hc, rfl, hk⟩ := (h.2.2.1 k n).mp own
  exact ⟨c, h.code?_of_mem hc, hc, rfl, hk⟩

theorem CodeLaw.owner_of_mem {s : State} (h : CodeLaw s) {c : CodeRecord} {k : Fin 80} (hc : c ∈ s.stations.codes)
    (hk : k ∈ c.stations) : (s.station k).owner = some c.number := (h.2.2.1 k c.number).mpr ⟨c, hc, rfl, hk⟩

/-- The code table reads of a station its owner and whether it is READY. -/
theorem CodeLaw.congr {s t : State} (h : CodeLaw s) (codes : t.stations.codes = s.stations.codes)
    (owner : ∀ k, (t.station k).owner = (s.station k).owner)
    (ready : ∀ k, (t.station k).state = .ready ↔ (s.station k).state = .ready) : CodeLaw t := by
  obtain ⟨sorted, inRange, owners, served⟩ := h
  refine ⟨codes ▸ sorted, codes ▸ inRange, fun k n => ?_, fun c hc => ?_⟩
  · rw [codes, owner, owners]
  · have := served c (codes ▸ hc)
    simpa only [ready, ne_eq] using this

/-- One record of the table replaced by one with the same number, stations and fields, whose new choice of a station agrees
with the stations as they are now. -/
theorem CodeLaw.reselect {s t : State} {c : CodeRecord} {active : Nat} {starved : Bool} (h : CodeLaw s)
    (hc : c ∈ s.stations.codes) (codes : t.stations.codes = s.stations.codes.map fun d =>
      if d.number = c.number then { d with active := active, starved := starved } else d)
    (owner : ∀ k, (t.station k).owner = (s.station k).owner) (bound : active < c.stations.length)
    (chosen : ({ c with active := active, starved := starved } : CodeRecord).served t)
    (others : ∀ d ∈ s.stations.codes, d ≠ c → d.served t) : CodeLaw t := by
  have mem : ∀ e, e ∈ t.stations.codes →
      e = { c with active := active, starved := starved } ∨ (e ∈ s.stations.codes ∧ e ≠ c) := by
    intro e he
    rw [codes, List.mem_map] at he
    obtain ⟨d, hd, rfl⟩ := he
    split
    · next same => exact .inl (by rw [h.unique hd hc same])
    · next other => exact .inr ⟨hd, fun e => other (by rw [e])⟩
  have numbers : (t.stations.codes.map CodeRecord.number) = s.stations.codes.map CodeRecord.number := by
    rw [codes, List.map_map]
    exact List.map_congr_left fun d _ => by simp only [Function.comp]; split <;> rfl
  have sorted := List.pairwise_map.mpr h.1
  refine ⟨List.pairwise_map.mp (numbers ▸ sorted), fun e he => ?_, fun k n => ?_, fun e he => ?_⟩
  · obtain rfl | ⟨hd, -⟩ := mem e he
    · obtain ⟨r1, r2, r3, -, r4⟩ := h.2.1 c hc
      exact ⟨r1, r2, r3, bound, r4⟩
    · exact h.2.1 e hd
  · rw [owner, h.2.2.1]
    constructor
    · rintro ⟨d, hd, hn, hk⟩
      refine ⟨if d.number = c.number then { d with active := active, starved := starved } else d, ?_, ?_, ?_⟩
      · rw [codes]; exact List.mem_map_of_mem hd
      · split <;> exact hn
      · split <;> exact hk
    · rintro ⟨e, he, hn, hk⟩
      obtain rfl | ⟨hd, -⟩ := mem e he
      · exact ⟨c, hc, hn, hk⟩
      · exact ⟨e, hd, hn, hk⟩
  · obtain rfl | ⟨hd, ne⟩ := mem e he
    · exact chosen
    · exact others e hd ne

/-- A change of state at one station leaves a code as it was served, if the code does not list the station. -/
theorem CodeRecord.served_of_elsewhere {s t : State} {c : CodeRecord} {k : Fin 80} (h : c.served s) (hk : k ∉ c.stations)
    (same : ∀ j, j ≠ k → (t.station j).state = (s.station j).state) : c.served t := by
  have keep : ∀ j ∈ c.stations, (t.station j).state = (s.station j).state := fun j hj =>
    same j fun e => hk (e ▸ hj)
  unfold CodeRecord.served at h ⊢
  split
  · next st => rw [if_pos st] at h; exact fun j hj => by rw [keep j hj]; exact h j hj
  · next st =>
    rw [if_neg st] at h
    obtain ⟨j, at_, ready⟩ := h
    exact ⟨j, at_, by rw [keep j (List.mem_of_getElem? at_)]; exact ready⟩

theorem CodeRecord.served_congr {s t : State} {c : CodeRecord} (h : c.served s)
    (same : ∀ j, (t.station j).state = (s.station j).state) : c.served t := by
  unfold CodeRecord.served at h ⊢
  simpa only [same] using h

/-- The search of a changeover visits every place of the list (R44). -/
theorem mem_searchOrder {active length j : Nat} (ha : active < length) (hj : j < length) : j ∈ searchOrder active length := by
  rw [searchOrder, List.mem_map]
  refine ⟨(j + length - (active + 1)) % length, List.mem_range.mpr (Nat.mod_lt _ (by omega)), ?_⟩
  rw [Nat.add_mod_mod, show active + 1 + (j + length - (active + 1)) = j + length by omega, Nat.add_mod_right,
    Nat.mod_eq_of_lt hj]

theorem State.searchReady_eq_some {s : State} {c : CodeRecord} {i : Nat} (h : s.searchReady c = some i) :
    ∃ k, c.stations[i]? = some k ∧ (s.station k).state = .ready := by
  have found := List.find?_some h
  cases at_ : c.stations[i]? with
  | none => simp [at_] at found
  | some k => exact ⟨k, rfl, by simpa [at_] using found⟩

theorem State.searchReady_eq_none {s : State} {c : CodeRecord} (ha : c.active < c.stations.length)
    (h : s.searchReady c = none) : ∀ k ∈ c.stations, (s.station k).state ≠ .ready := by
  intro k hk
  obtain ⟨j, hj, at_⟩ := List.getElem_of_mem hk
  have := List.find?_eq_none.mp h j (mem_searchOrder ha hj)
  rw [List.getElem?_eq_getElem hj, at_] at this
  simpa using this

@[simp] theorem State.modifyCode_codes (s : State) (n : Nat) (f : CodeRecord → CodeRecord) :
    (s.modifyCode n f).stations.codes = s.stations.codes.map fun c => if c.number = n then f c else c := rfl

@[simp] theorem State.reportChangeover_stations (s : State) (n : Nat) (a b : Option (Fin 80)) :
    (s.reportChangeover n a b).stations = s.stations := by simp [State.reportChangeover]

/-- A code record as a change of the table writes it, with its number left to speak for it. -/
theorem CodeRecord.eq_with_active (c : CodeRecord) (i : Nat) (h : c.starved = false) :
    ({ c with active := i } : CodeRecord) = { c with active := i, starved := false } := by
  rw [← h]

section
variable {s t : State} {k : Fin 80}

/-- Station `k` alone has another state in `t` than in `s`. -/
structure MovedOnly (s t : State) (k : Fin 80) : Prop where
  codes : t.stations.codes = s.stations.codes
  owner : ∀ j, (t.station j).owner = (s.station j).owner
  state : ∀ j, j ≠ k → (t.station j).state = (s.station j).state

theorem MovedOnly.code? (m : MovedOnly s t k) (n : Nat) : t.code? n = s.code? n := by simp only [State.code?, m.codes]

theorem MovedOnly.others (m : MovedOnly s t k) (h : CodeLaw s) {c d : CodeRecord} (hc : c ∈ s.stations.codes)
    (hk : k ∈ c.stations) (hd : d ∈ s.stations.codes) (ne : d ≠ c) : d.served t := by
  refine CodeRecord.served_of_elsewhere (h.served hd) (fun mem => ne ?_) m.state
  have := (h.owner_of_mem hd mem).symm.trans (h.owner_of_mem hc hk)
  exact h.unique hd hc (Option.some.inj this)

/-- A station that no code lists can take any state. -/
theorem MovedOnly.codeLaw_of_unowned (m : MovedOnly s t k) (h : CodeLaw s) (own : (s.station k).owner = none) :
    CodeLaw t := by
  obtain ⟨sorted, inRange, owners, served⟩ := id h
  refine ⟨m.codes ▸ sorted, m.codes ▸ inRange, fun j n => by rw [m.codes, m.owner, owners], fun c hc => ?_⟩
  rw [m.codes] at hc
  refine CodeRecord.served_of_elsewhere (h.served hc) (fun mem => ?_) m.state
  rw [h.owner_of_mem hc mem] at own
  cases own

/-- A changeover keeps the code table consistent when its station has left READY (R44). -/
theorem CodeLaw.changeover (h : CodeLaw s) (m : MovedOnly s t k) (was : (s.station k).state = .ready) : CodeLaw (t.changeover k) := by
  unfold State.changeover
  cases own : (s.station k).owner with
  | none => rw [m.owner, own]; exact m.codeLaw_of_unowned h own
  | some n =>
    obtain ⟨c, found, hc, rfl, hk⟩ := h.owner own
    have others : ∀ d ∈ s.stations.codes, d ≠ c → d.served t := fun d hd ne => m.others h hc hk hd ne
    have notStarved : c.starved = false := by
      by_contra st
      have none_ := h.served hc
      rw [CodeRecord.served, if_pos (by simpa using st)] at none_
      exact none_ k hk was
    have active := h.served hc
    rw [CodeRecord.served, if_neg (by simp [notStarved])] at active
    obtain ⟨a, at_, ready⟩ := active
    have choice : c.activeStation = some a := by simp [CodeRecord.activeStation, notStarved, at_]
    simp only [m.owner, own, m.code?, found, choice, Option.some.injEq]
    by_cases same : a = k
    · rw [if_pos same]
      cases search : t.searchReady c with
      | some i =>
        obtain ⟨j, found_, ready_⟩ := State.searchReady_eq_some search
        refine h.reselect (active := i) (starved := false) hc ?_ (fun j => by simp [m.owner])
          (List.getElem?_eq_some_iff.mp found_).1 ?_ fun d hd ne => CodeRecord.served_congr (others d hd ne) fun j => by simp
        · simp only [State.reportChangeover_stations, State.modifyCode_codes, m.codes]
          refine List.map_congr_left fun d hd => ?_
          split
          · next e => rw [h.unique hd hc e]; exact c.eq_with_active i notStarved
          · rfl
        · exact ⟨j, found_, by simpa using ready_⟩
      | none =>
        refine h.reselect (active := c.active) (starved := true) hc ?_ (fun j => by simp [m.owner])
          (h.2.1 c hc).2.2.2.1 ?_ fun d hd ne => CodeRecord.served_congr (others d hd ne) fun j => by simp
        · simp only [State.reportChangeover_stations, State.modifyCode_codes, m.codes]
          refine List.map_congr_left fun d hd => ?_
          split
          · next e => rw [h.unique hd hc e]
          · rfl
        · exact fun j hj => by
            simpa using State.searchReady_eq_none (h.2.1 c hc).2.2.2.1 search j hj
    · rw [if_neg same]
      obtain ⟨sorted, inRange, owners, served⟩ := id h
      refine ⟨m.codes ▸ sorted, m.codes ▸ inRange, fun j n => by rw [m.codes, m.owner, owners], fun d hd => ?_⟩
      rw [m.codes] at hd
      by_cases e : d = c
      · subst e
        rw [if_neg (by simp [notStarved])]
        exact ⟨a, at_, by rw [m.state a same]; exact ready⟩
      · exact others d hd e

/-- A takeover keeps the code table consistent when its station has become READY (R45). -/
theorem CodeLaw.takeover (h : CodeLaw s) (m : MovedOnly s t k) (now : (t.station k).state = .ready) :
    CodeLaw (t.takeover k) := by
  unfold State.takeover
  cases own : (s.station k).owner with
  | none => rw [m.owner, own]; exact m.codeLaw_of_unowned h own
  | some n =>
    obtain ⟨c, found, hc, rfl, hk⟩ := h.owner own
    have others : ∀ d ∈ s.stations.codes, d ≠ c → d.served t := fun d hd ne => m.others h hc hk hd ne
    simp only [m.owner, own, m.code?, found]
    split
    · refine h.reselect (active := c.stations.idxOf k) (starved := false) hc ?_ (fun j => by simp [m.owner])
        (List.idxOf_lt_length_of_mem hk) ?_ fun d hd ne => CodeRecord.served_congr (others d hd ne) fun j => by simp
      · simp only [State.reportChangeover_stations, State.modifyCode_codes, m.codes]
        refine List.map_congr_left fun d hd => ?_
        split
        · next e => rw [h.unique hd hc e]
        · rfl
      · exact ⟨k, List.getElem?_idxOf hk, by simpa using now⟩
    · next fed =>
      obtain ⟨sorted, inRange, owners, served⟩ := id h
      refine ⟨m.codes ▸ sorted, m.codes ▸ inRange, fun j n => by rw [m.codes, m.owner, owners], fun d hd => ?_⟩
      rw [m.codes] at hd
      by_cases e : d = c
      · subst e
        have active := h.served hd
        rw [CodeRecord.served, if_neg fed] at active
        obtain ⟨a, at_, ready⟩ := active
        rw [if_neg fed]
        refine ⟨a, at_, ?_⟩
        by_cases same : a = k
        · rw [same]; exact now
        · rw [m.state a same]; exact ready
      · exact others d hd e

end

/-- A station record whose owner is the one before, written in its place. -/
theorem movedOnly_setStation (s : State) (k : Fin 80) (r : Station) (h : r.owner = (s.station k).owner) :
    MovedOnly s (s.setStation k r) k where
  codes := rfl
  owner j := by rw [State.setStation_station]; split <;> simp_all
  state j hj := by rw [State.setStation_station, if_neg hj]

/-- A station record written over one with the same owner and the same readiness leaves the code table alone. -/
theorem CodeLaw.setStation {s : State} (h : CodeLaw s) {k : Fin 80} {r : Station} (owner : r.owner = (s.station k).owner)
    (ready : r.state = .ready ↔ (s.station k).state = .ready) : CodeLaw (s.setStation k r) :=
  h.congr rfl (movedOnly_setStation s k r owner).owner fun j => by
    rw [State.setStation_station]; split
    · next e => rw [ready, e]
    · rfl

/-- Every change of a station's state, with its changeover or takeover, keeps the code table consistent (R44, R45). -/
theorem CodeLaw.moveStation {s : State} (h : CodeLaw s) (k : Fin 80) (new : StationState) :
    CodeLaw (s.moveStation k new) := by
  have moved := movedOnly_setStation s k { s.station k with state := new } rfl
  unfold State.moveStation
  dsimp only
  split
  case isTrue leaves => exact h.changeover moved leaves.1
  case isFalse =>
    split
    case isTrue comes => exact h.takeover moved (by simpa using comes.2)
    case isFalse => exact h.setStation rfl (by dsimp only; tauto)

end Sys2Proof.Machine

/-! PROOFS. The supply laws together (R25): the code table, the places of the ASSIGNED pockets and of the pocket under the gate
stroke, and the pending-fire counts, through every operation on the chain and the stations. -/

namespace Sys2Proof.Machine

/-! ## The laws in parts -/

/-- The pocket is ASSIGNED and names the station. -/
def Pocket.names (r : Pocket) (k : Fin 80) : Bool := decide (r.state = .assigned ∧ r.station = some k)

theorem Pocket.names_iff {r : Pocket} {k : Fin 80} : r.names k = true ↔ r.state = .assigned ∧ r.station = some k := by
  simp [Pocket.names]

theorem Pocket.names_of_not_assigned {r : Pocket} (h : r.state ≠ .assigned) (k : Fin 80) : r.names k = false := by
  simp [Pocket.names, h]

/-- A station that is LOCKED, QUARANTINED, FAULT or UNLOADED has no pending fire (R25). -/
def Station.rests (r : Station) : Prop :=
  r.state = .locked ∨ r.state = .quarantined ∨ r.state = .fault ∨ r.state = .unloaded → r.pending = 0

/-- The code table, the places and the pending-fire counts; the station excepted, if there is one, may still count fires after
it has left service, while its assignments are being withdrawn (R33). -/
structure Supplied (x : Option (Fin 80)) (s : State) : Prop where
  code : CodeLaw s
  place : PlaceLaw s
  count : ∀ k, (s.station k).pending = s.assignedTo k
  rests : ∀ k, x ≠ some k → (s.station k).rests

theorem supplied_iff {s : State} : Supplied none s ↔ CodeLaw s ∧ PlaceLaw s ∧ PendingLaw s :=
  ⟨fun h => ⟨h.code, h.place, fun k => ⟨h.count k, h.rests k nofun⟩⟩,
    fun ⟨code, place, pending⟩ => ⟨code, place, fun k => (pending k).1, fun k _ => (pending k).2⟩⟩

/-- What the supply laws read is the same: the pockets and where they stand, the index, the gate stroke, the station records and
the code table. -/
structure SameSupply (s t : State) : Prop where
  pockets : t.chain.pockets = s.chain.pockets
  c : t.chain.c = s.chain.c
  index : t.chain.index = s.chain.index
  stroke : t.chain.gateStroke = s.chain.gateStroke
  recs : t.stations.recs = s.stations.recs
  codes : t.stations.codes = s.stations.codes

theorem SameSupply.refl (s : State) : SameSupply s s := ⟨rfl, rfl, rfl, rfl, rfl, rfl⟩

theorem SameSupply.trans {s t u : State} (h : SameSupply s t) (k : SameSupply t u) : SameSupply s u :=
  ⟨k.pockets.trans h.pockets, k.c.trans h.c, k.index.trans h.index, k.stroke.trans h.stroke, k.recs.trans h.recs,
    k.codes.trans h.codes⟩

/-- The same composition, the later part first: its goal then fixes the state between. -/
theorem SameSupply.after {s t u : State} (k : SameSupply t u) (h : SameSupply s t) : SameSupply s u := h.trans k

theorem sameSupply_of_eq {s t : State} (chain : t.chain = s.chain) (stations : t.stations = s.stations) : SameSupply s t := by
  constructor <;> simp only [chain, stations]

theorem Steady.sameSupply {s t : State} (h : Steady s t) : SameSupply s t := sameSupply_of_eq h.chain h.stations

section
variable {x : Option (Fin 80)} {s t : State}

theorem SameSupply.station (h : SameSupply s t) (k : Fin 80) : t.station k = s.station k := by
  simp only [State.station, h.recs]

theorem SameSupply.pocket (h : SameSupply s t) (p : Fin 128) : t.pocket p = s.pocket p := by
  simp only [State.pocket, h.pockets]

theorem SameSupply.assignedTo (h : SameSupply s t) (k : Fin 80) : t.assignedTo k = s.assignedTo k := by
  simp only [State.assignedTo, h.pockets]

theorem PlaceLaw.congr (h : PlaceLaw s) (pockets : t.chain.pockets = s.chain.pockets) (c : t.chain.c = s.chain.c)
    (index : t.chain.index = s.chain.index) (stroke : t.chain.gateStroke = s.chain.gateStroke) : PlaceLaw t := by
  simp only [PlaceLaw, State.pocket, State.positionOf, pockets, c, index, stroke] at h ⊢
  exact h

theorem Supplied.congr (h : Supplied x s) (same : SameSupply s t) : Supplied x t where
  code := h.code.congr same.codes (fun k => by rw [same.station]) fun k => by rw [same.station]
  place := h.place.congr same.pockets same.c same.index same.stroke
  count k := by rw [same.station, same.assignedTo, h.count]
  rests k hk := by rw [same.station]; exact h.rests k hk

/-! ## The places -/

/-- The places of the laws: an ASSIGNED pocket that names a station is not past it, and the pocket under the gate stroke is one
that the gate dumps. -/
theorem placeLaw_iff : PlaceLaw s ↔
    (∀ p k, (s.pocket p).names k = true → (s.positionOf p).val ≤ k.val + 1
      ∧ (s.chain.index ≠ .idle → (s.positionOf p).val ≤ k.val))
    ∧ ∀ p, s.chain.gateStroke = some p → (s.pocket p).state.dumped = true
        ∧ (s.positionOf p = 90 ∨ (s.positionOf p = 91 ∧ s.chain.index = .idle)) := by
  simp only [PlaceLaw, Pocket.names_iff, PocketState.dumped_iff, and_imp]

/-- A pocket written in a place where its record may stand. -/
theorem PlaceLaw.setPocket (h : PlaceLaw s) {p : Fin 128} {r : Pocket}
    (assigned : ∀ k, r.names k = true → (s.positionOf p).val ≤ k.val + 1
      ∧ (s.chain.index ≠ .idle → (s.positionOf p).val ≤ k.val))
    (stroke : s.chain.gateStroke = some p → r.state.dumped = true) : PlaceLaw (s.setPocket p r) := by
  obtain ⟨places, gate⟩ := placeLaw_iff.mp h
  refine placeLaw_iff.mpr ⟨fun q k => ?_, fun q hq => ⟨?_, (gate q hq).2⟩⟩
  · rw [State.pocket_setPocket_eq]
    split
    · next e => rw [e]; exact assigned k
    · exact places q k
  · rw [State.pocket_setPocket_eq]
    split
    · next e => exact stroke (by rw [← e]; exact hq)
    · exact (gate q hq).1

/-- The pocket under the gate stroke is at 90 or 91. -/
theorem PlaceLaw.stroke_ne (h : PlaceLaw s) {q : Fin 128} (h90 : q ≠ 90) (h91 : q ≠ 91) :
    s.chain.gateStroke ≠ some (s.pocketAt q) := by
  intro e
  obtain ⟨-, at90 | ⟨at91, -⟩⟩ := (placeLaw_iff.mp h).2 _ e
  · exact h90 (by simpa using at90)
  · exact h91 (by simpa using at91)

theorem PlaceLaw.stroke_ne_of_state (h : PlaceLaw s) {p : Fin 128} (d : (s.pocket p).state.dumped = false) :
    s.chain.gateStroke ≠ some p := by
  intro e
  rw [((placeLaw_iff.mp h).2 p e).1] at d
  cases d

/-! ## A pocket written -/

theorem State.assignedTo_setPocket (s : State) (p : Fin 128) (r : Pocket) (k : Fin 80) :
    (s.setPocket p r).assignedTo k + ((s.pocket p).names k).toNat = s.assignedTo k + (r.names k).toNat :=
  countP_vset (fun q : Pocket => q.names k) s.chain.pockets p r

@[simp] theorem State.setPocket_station (s : State) (p : Fin 128) (r : Pocket) (k : Fin 80) :
    (s.setPocket p r).station k = s.station k := rfl

/-- A pocket that is not ASSIGNED, before or after. -/
theorem Supplied.setPocket (h : Supplied x s) {p : Fin 128} {r : Pocket} (old : (s.pocket p).state ≠ .assigned)
    (new : r.state ≠ .assigned) (stroke : s.chain.gateStroke = some p → r.state.dumped = true) :
    Supplied x (s.setPocket p r) where
  code := h.code.congr rfl (fun _ => rfl) fun _ => Iff.rfl
  place := h.place.setPocket (fun k hk => by rw [Pocket.names_of_not_assigned new] at hk; cases hk) stroke
  count k := by
    have := s.assignedTo_setPocket p r k
    rw [Pocket.names_of_not_assigned old, Pocket.names_of_not_assigned new] at this
    rw [State.setPocket_station, h.count]
    exact this.symm
  rests := h.rests

/-- A pocket whose state is neither ASSIGNED nor one that the gate dumps, and that does not become ASSIGNED. -/
theorem Supplied.setPocket_held (h : Supplied x s) {p : Fin 128} {r : Pocket} (old : (s.pocket p).state ≠ .assigned)
    (clear : (s.pocket p).state.dumped = false) (new : r.state ≠ .assigned) : Supplied x (s.setPocket p r) :=
  h.setPocket old new fun e => absurd e (h.place.stroke_ne_of_state clear)

/-! ## A station written -/

/-- A station's record written with the same owner, state and count. -/
theorem Supplied.setStation (h : Supplied x s) {k : Fin 80} {r : Station} (owner : r.owner = (s.station k).owner)
    (state : r.state = (s.station k).state) (pending : r.pending = (s.station k).pending) :
    Supplied x (s.setStation k r) where
  code := h.code.setStation owner (by rw [state])
  place := h.place.congr rfl rfl rfl rfl
  count j := by
    change _ = s.assignedTo j
    rw [State.setStation_station]
    split
    · next e => rw [pending, e, h.count]
    · exact h.count j
  rests j hj := by
    rw [State.setStation_station]
    split
    · next e => subst e; have := h.rests j hj; rwa [Station.rests, ← state, ← pending] at this
    · exact h.rests j hj

@[simp] theorem State.reportChangeover_chain (s : State) (n : Nat) (a b : Option (Fin 80)) :
    (s.reportChangeover n a b).chain = s.chain := by simp [State.reportChangeover]

@[simp] theorem State.modifyCode_chain (s : State) (n : Nat) (f : CodeRecord → CodeRecord) :
    (s.modifyCode n f).chain = s.chain := rfl

@[simp] theorem State.changeover_chain (s : State) (k : Fin 80) : (s.changeover k).chain = s.chain := by
  unfold State.changeover
  repeat' split
  all_goals simp

@[simp] theorem State.takeover_chain (s : State) (k : Fin 80) : (s.takeover k).chain = s.chain := by
  unfold State.takeover
  repeat' split
  all_goals simp

@[simp] theorem State.moveStation_chain (s : State) (k : Fin 80) (new : StationState) :
    (s.moveStation k new).chain = s.chain := by
  unfold State.moveStation
  dsimp only
  repeat' split
  all_goals simp

/-- A change of state, with its changeover or takeover: the counts stay, and the new state must be one that its count permits,
or the station's assignments are still to be withdrawn. -/
theorem Supplied.moveStation {y : Option (Fin 80)} (h : Supplied x s) (k : Fin 80) (new : StationState)
    (others : ∀ j, y ≠ some j → j ≠ k → x ≠ some j)
    (rests : y ≠ some k → ({ s.station k with state := new } : Station).rests) : Supplied y (s.moveStation k new) where
  code := h.code.moveStation k new
  place := by
    apply h.place.congr <;> rw [State.moveStation_chain]
  count j := by
    rw [show (s.moveStation k new).assignedTo j = s.assignedTo j by simp only [State.assignedTo, State.moveStation_chain],
      State.moveStation_station, ← h.count]
    split <;> simp_all
  rests j hj := by
    rw [State.moveStation_station]
    split
    · next e => subst e; exact rests hj
    · next ne => exact h.rests j (others j hj ne)

/-- A change to a state that may have pending fires, or of a station that has none. -/
theorem Supplied.moveStation_free (h : Supplied x s) (k : Fin 80) (new : StationState)
    (rests : ({ s.station k with state := new } : Station).rests) : Supplied x (s.moveStation k new) :=
  h.moveStation k new (fun _ hj _ => hj) fun _ => rests

/-! ## Withdrawals (R5, R25, R30, R33) -/

/-- The record of a station whose count has fallen by one (R25, R30). -/
def Station.lowered (r : Station) : Station :=
  { r with
    pending := r.pending - 1
    state := if r.state = .locking ∧ r.pending - 1 = 0 then .locked else r.state }

theorem Station.lowered_ready {r : Station} : r.lowered.state = .ready ↔ r.state = .ready := by
  unfold Station.lowered
  dsimp only
  split
  · next locks => simp [locks.1]
  · rfl

theorem Station.rests.lowered {r : Station} (h : r.rests) : r.lowered.rests := by
  unfold Station.lowered Station.rests at *
  dsimp only
  split
  · next locks => exact fun _ => locks.2
  · intro off; rw [h off]

/-- A station written with its count one lower, and a pocket that named it and no longer does: what a withdrawal and a fire do
to the supply laws. -/
theorem Supplied.release (h : Supplied x s) {p : Fin 128} {k : Fin 80} {r : Pocket} {st : Station}
    (named : (s.pocket p).names k = true) (new : r.state ≠ .assigned) (owner : st.owner = (s.station k).owner)
    (pending : st.pending = (s.station k).lowered.pending) (state : st.state = (s.station k).lowered.state) :
    Supplied x ((s.setPocket p r).setStation k st) where
  code := CodeLaw.setStation (h.code.congr rfl (fun _ => rfl) fun _ => Iff.rfl) owner
    (by rw [state]; exact Station.lowered_ready)
  place := by
    refine PlaceLaw.congr (h.place.setPocket (p := p) (r := r) (fun j hj => ?_) fun e => ?_) rfl rfl rfl rfl
    · rw [Pocket.names_of_not_assigned new] at hj; cases hj
    · exact absurd e (h.place.stroke_ne_of_state (by rw [(Pocket.names_iff.mp named).1]; rfl))
  count j := by
    change _ = (s.setPocket p r).assignedTo j
    have sum := s.assignedTo_setPocket p r j
    rw [Pocket.names_of_not_assigned new] at sum
    rw [State.setStation_station]
    split
    · next e =>
      subst e
      rw [named] at sum
      simp only [Bool.toNat_true, Bool.toNat_false] at sum
      rw [pending, Station.lowered, h.count]
      dsimp only
      omega
    · next ne =>
      have other : (s.pocket p).names j = false := by
        rw [Bool.eq_false_iff]
        intro also
        have := (Pocket.names_iff.mp named).2.symm.trans (Pocket.names_iff.mp also).2
        exact ne (Option.some.inj this).symm
      rw [other] at sum
      rw [State.setPocket_station, h.count]
      exact sum.symm
  rests j hj := by
    rw [State.setStation_station]
    split
    · next e =>
      subst e
      have := (h.rests j hj).lowered
      rwa [Station.rests, ← pending, ← state] at this
    · exact h.rests j hj

/-- A withdrawal request (R5). -/
theorem Supplied.withdraw (h : Supplied x s) (p : Fin 128) : Supplied x (s.withdraw p) := by
  unfold State.withdraw
  dsimp only
  split
  case isFalse => exact h
  case isTrue assigned =>
    split
    · next k station =>
      exact h.release (Pocket.names_iff.mpr ⟨assigned, station⟩) nofun rfl rfl rfl
    · next nameless =>
      exact
        { code := h.code.congr rfl (fun _ => rfl) fun _ => Iff.rfl
          place := h.place.setPocket (fun k hk => by simp [Pocket.names_iff, Pocket.emptied] at hk) fun e =>
            absurd e (h.place.stroke_ne_of_state (by rw [assigned]; rfl))
          count := fun k => by
            have sum := s.assignedTo_setPocket p Pocket.emptied k
            rw [show (s.pocket p).names k = false by simp [Pocket.names, nameless]] at sum
            rw [State.setPocket_station, h.count]
            exact sum.symm
          rests := h.rests }

theorem Supplied.withdrawAt (h : Supplied x s) (k : Fin 80) (q : Fin 128) : Supplied x (s.withdrawAt k q) := by
  unfold State.withdrawAt
  dsimp only
  split
  · split
    · exact (h.withdraw _).congr (State.fallBack_steady _ _ _ _).sameSupply
    · exact h.withdraw _
  · exact h

@[simp] theorem State.lowerPending_chain (s : State) (k : Fin 80) : (s.lowerPending k).chain = s.chain := rfl

theorem State.withdraw_positions (s : State) (p : Fin 128) :
    (s.withdraw p).chain = { s.chain with pockets := (s.withdraw p).chain.pockets } := by
  unfold State.withdraw
  dsimp only
  repeat' split
  all_goals rfl

theorem State.withdrawAt_positions (k : Fin 80) (s : State) (q : Fin 128) :
    (s.withdrawAt k q).chain = { s.chain with pockets := (s.withdrawAt k q).chain.pockets } := by
  unfold State.withdrawAt
  dsimp only
  repeat' split
  · rw [(State.fallBack_steady _ _ _ _).chain]; exact s.withdraw_positions _
  · exact s.withdraw_positions _
  · rfl

theorem State.withdrawAt_pocketAt (k : Fin 80) (s : State) (q r : Fin 128) :
    (s.withdrawAt k q).pocketAt r = s.pocketAt r := by
  rw [State.pocketAt, State.withdrawAt_positions]; rfl

/-- A withdrawal at one position empties the pocket there if it is ASSIGNED and names the station, and writes no other. -/
theorem State.withdrawAt_pocket (k : Fin 80) (s : State) (q p : Fin 128) :
    (s.withdrawAt k q).pocket p =
      if p = s.pocketAt q ∧ (s.pocket p).names k = true then Pocket.emptied else s.pocket p := by
  unfold State.withdrawAt
  dsimp only
  by_cases named : (s.pocket (s.pocketAt q)).names k = true
  · obtain ⟨assigned, station⟩ := Pocket.names_iff.mp named
    have withdrawn : (s.withdraw (s.pocketAt q)).pocket p = if p = s.pocketAt q ∧ (s.pocket p).names k = true then
        Pocket.emptied else s.pocket p := by
      rw [State.withdraw_pocket]
      by_cases e : p = s.pocketAt q
      · simp [e, assigned, named]
      · simp [e]
    rw [if_pos ⟨assigned, station⟩]
    split
    · rw [(State.fallBack_steady _ _ _ _).sameSupply.pocket]; exact withdrawn
    · exact withdrawn
  · rw [if_neg (fun both => named (Pocket.names_iff.mpr both))]
    split
    · next both => exact absurd (both.1 ▸ both.2) named
    · rfl

/-- After the withdrawals at a list of positions, no pocket at one of them is ASSIGNED and names the station. -/
theorem State.withdrawAt_fold_clears (k : Fin 80) (l : List (Fin 128)) (s : State) :
    let t := l.foldl (State.withdrawAt k) s
    (∀ q, t.pocketAt q = s.pocketAt q)
      ∧ ∀ p, (t.pocket p).names k = true → (s.pocket p).names k = true ∧ ∀ q ∈ l, p ≠ s.pocketAt q := by
  induction l generalizing s with
  | nil => exact ⟨fun _ => rfl, fun p hp => ⟨hp, nofun⟩⟩
  | cons q l ih =>
    obtain ⟨at_, clear⟩ := ih (s.withdrawAt k q)
    refine ⟨fun r => (at_ r).trans (s.withdrawAt_pocketAt k q r), fun p hp => ?_⟩
    obtain ⟨named, away⟩ := clear p hp
    rw [State.withdrawAt_pocket] at named
    split at named
    · simp [Pocket.names, Pocket.emptied] at named
    · next kept =>
      refine ⟨named, fun r hr => ?_⟩
      obtain rfl | hr := List.mem_cons.mp hr
      · exact fun e => kept ⟨e, named⟩
      · rw [← State.withdrawAt_pocketAt k s q r]; exact away r hr

theorem State.withdrawStation_not_named (s : State) (k : Fin 80) (p : Fin 128) :
    ((s.withdrawStation k).pocket p).names k = false := by
  rw [Bool.eq_false_iff]
  intro named
  obtain ⟨-, clear⟩ := s.withdrawAt_fold_clears k (List.finRange 128).reverse
  exact (clear p named).2 (s.positionOf p) (by simp) (by simp)

theorem Supplied.withdrawStation_but (h : Supplied x s) (k : Fin 80) : Supplied x (s.withdrawStation k) := by
  unfold State.withdrawStation
  generalize (List.finRange 128).reverse = l
  induction l generalizing s with
  | nil => exact h
  | cons q l ih => exact ih (h.withdrawAt k q)

/-- The withdrawal of a station's assignments leaves it no pending fire, so that it may be out of service (R25, R33). -/
theorem Supplied.withdrawStation {k : Fin 80} (h : Supplied (some k) s) : Supplied none (s.withdrawStation k) := by
  have kept := h.withdrawStation_but k
  refine { kept with rests := fun j _ => ?_ }
  by_cases e : j = k
  · subst e
    intro _
    rw [kept.count, State.assignedTo, List.countP_eq_zero]
    intro v hv
    obtain ⟨p, rfl⟩ := mem_toList_iff_vget.mp hv
    have := s.withdrawStation_not_named j p
    rw [Pocket.names, decide_eq_false_iff_not] at this
    exact fun both => this (of_decide_eq_true both)
  · exact kept.rests j fun same => e (Option.some.inj same).symm

/-- A station taken out of service, with the withdrawal of its assignments (R33, R34, R35). -/
theorem Supplied.takeOut (h : Supplied none s) (k : Fin 80) (new : StationState) :
    Supplied none ((s.moveStation k new).withdrawStation k) :=
  (h.moveStation (y := some k) k new (fun _ _ _ => nofun) fun e => absurd rfl e).withdrawStation

/-! ## Quarantine, misfeed and the tape sensor (R28, R34, R35, R114) -/

theorem State.raiseStation_steady (s : State) (src : Source) (k : Fin 80) (d : Nat) : Steady s (s.raiseStation src k d) :=
  s.raise_steady _ _ _

theorem Supplied.quarantine (h : Supplied none s) (k : Fin 80) : Supplied none (s.quarantine k) := by
  unfold State.quarantine
  refine Supplied.congr ?_ (State.raiseStation_steady _ _ _ _).sameSupply
  split
  case h_5 => exact h
  all_goals exact h.takeOut k _

theorem Supplied.misfeed (h : Supplied none s) (k : Fin 80) : Supplied none (s.misfeed k) := by
  unfold State.misfeed
  split
  case h_6 => exact h
  case h_4 | h_5 => exact h.congr (State.raiseStation_steady _ _ _ _).sameSupply
  all_goals exact (h.takeOut k _).congr (State.raiseStation_steady _ _ _ _).sameSupply

theorem Supplied.passNotice (h : Supplied none s) (k : Fin 80) : Supplied none (s.passNotice k) :=
  h.setStation rfl rfl rfl

theorem Supplied.failNotice (h : Supplied none s) (k : Fin 80) : Supplied none (s.failNotice k) := by
  have counted : Supplied none (s.setStation k { s.station k with failRun := failInc (s.station k).failRun }) :=
    h.setStation rfl rfl rfl
  unfold State.failNotice
  dsimp only
  split
  · exact counted.quarantine k
  · exact counted

theorem Supplied.tapeArrival (h : Supplied none s) (k : Fin 80) (present : Bool) :
    Supplied none (s.tapeArrival k present) := by
  have sensed : Supplied none (s.setStation k { s.station k with tape := present }) := h.setStation rfl rfl rfl
  have emptied := sensed.moveStation_free k .empty fun off => by simp at off
  unfold State.tapeArrival
  dsimp only
  split
  · exact sensed
  · split
    case h_3 => exact sensed
    all_goals exact emptied.congr (State.raise_steady _ _ _ _).sameSupply

end

end Sys2Proof.Machine

/-! PROOFS. The supply laws through the code commands, the assignment, the fires, the index, the gate, the verifier and the head
(R6, R12, R17, R41, R42, R88, R90). -/

namespace Sys2Proof.Machine

/-! ## The code commands (R41, R42) -/

theorem stationOf_eq_some {n : Nat} {k : Fin 80} (h : stationOf n = some k) : k.val = n := by
  unfold stationOf at h
  split at h
  · rw [← Option.some.inj h]
  · cases h

theorem mapM_stationOf {l : List Nat} {m : List (Fin 80)} (h : l.mapM stationOf = some m) : m.map Fin.val = l := by
  induction l generalizing m with
  | nil => cases h; rfl
  | cons n l ih =>
    rw [List.mapM_cons] at h
    simp only [Option.bind_eq_bind, Option.bind_eq_some_iff, Option.pure_def] at h
    obtain ⟨k, hk, m', hm, e⟩ := h
    rw [← Option.some.inj e, List.map_cons, ih hm, stationOf_eq_some hk]

theorem codeStations_eq_some {f : CodeFields} {l : List (Fin 80)} (h : codeStations f = some l) :
    (1 ≤ l.length ∧ l.length ≤ 4) ∧ l.Nodup := by
  unfold codeStations at h
  dsimp only at h
  split at h
  · next ok =>
    have e := mapM_stationOf h
    have length : l.length = (listedStations f).length := by rw [← e, List.length_map]
    have cut : (listedStations f).length = min f.length 4 := by simp [listedStations]
    have inRange := ok.1
    simp only [within, Bool.and_eq_true, decide_eq_true_eq] at inRange
    exact ⟨by omega, List.Nodup.of_map _ (e ▸ ok.2)⟩
  · cases h

/-- A definition whose fields are in range, before its active station is selected (R40, R41). -/
theorem codeRecord?_eq_some {f : CodeFields} {c : CodeRecord} (h : codeRecord? f = some c) :
    c.active = 0 ∧ c.inRange := by
  unfold codeRecord? at h
  split at h
  · next l clinch kind listed _ _ =>
    obtain ⟨length, nodup⟩ := codeStations_eq_some listed
    split at h
    · next ok =>
      simp only [within, withinInt, Bool.and_eq_true, decide_eq_true_eq] at ok
      obtain ⟨⟨⟨⟨⟨⟨number, span⟩, remake⟩, m⟩, e⟩, tl⟩, th⟩ := ok
      rw [← Option.some.inj h]
      exact ⟨rfl, number, length, nodup, by dsimp only; omega, span, remake, m, e, tl, th⟩
    · cases h
  · cases h

theorem CodeRecord.inRange_reselect {c : CodeRecord} (h : c.inRange) {active : Nat} {starved : Bool}
    (bound : active < c.stations.length) : ({ c with active := active, starved := starved } : CodeRecord).inRange :=
  ⟨h.1, h.2.1, h.2.2.1, bound, h.2.2.2.2⟩

/-- The selection at a definition (R41): the record keeps its number and list, and is served. -/
theorem State.selectFirst_spec (s : State) {c : CodeRecord} (h : c.inRange) :
    (s.selectFirst c).number = c.number ∧ (s.selectFirst c).stations = c.stations ∧ (s.selectFirst c).inRange
      ∧ (s.selectFirst c).served s := by
  unfold State.selectFirst
  split
  · next i found =>
    obtain ⟨bound, ready, -⟩ := List.findIdx?_eq_some_iff_getElem.mp found
    exact ⟨rfl, rfl, CodeRecord.inRange_reselect h bound,
      ⟨_, List.getElem?_eq_getElem bound, of_decide_eq_true ready⟩⟩
  · next none_ =>
    refine ⟨rfl, rfl, CodeRecord.inRange_reselect h h.2.1.1, fun k hk => ?_⟩
    exact of_decide_eq_false (List.findIdx?_eq_none_iff.mp none_ k hk)

theorem mem_insertCode {c d : CodeRecord} {l : List CodeRecord} (sorted : l.Pairwise fun a b => a.number < b.number) :
    d ∈ insertCode c l ↔ d = c ∨ (d ∈ l ∧ d.number ≠ c.number) := by
  induction l with
  | nil => simp [insertCode]
  | cons e l ih =>
    obtain ⟨above, sorted⟩ := List.pairwise_cons.mp sorted
    unfold insertCode
    split
    · next lt =>
      have ne : ∀ a ∈ e :: l, a.number ≠ c.number := fun a ha => by
        obtain rfl | ha := List.mem_cons.mp ha
        · omega
        · have := above a ha; omega
      simp only [List.mem_cons] at ne ⊢
      constructor
      · rintro (rfl | h)
        · exact .inl rfl
        · exact .inr ⟨h, ne d h⟩
      · rintro (rfl | ⟨h, -⟩)
        · exact .inl rfl
        · exact .inr h
    · split
      · next eq =>
        have ne : ∀ a ∈ l, a.number ≠ c.number := fun a ha => by have := above a ha; omega
        simp only [List.mem_cons]
        constructor
        · rintro (rfl | h)
          · exact .inl rfl
          · exact .inr ⟨.inr h, ne d h⟩
        · rintro (rfl | ⟨rfl | h, hn⟩)
          · exact .inl rfl
          · exact absurd eq.symm hn
          · exact .inr h
      · next ne =>
        simp only [List.mem_cons, ih sorted]
        constructor
        · rintro (rfl | rfl | ⟨h, hn⟩)
          · exact .inr ⟨.inl rfl, fun e => ne e.symm⟩
          · exact .inl rfl
          · exact .inr ⟨.inr h, hn⟩
        · rintro (rfl | ⟨rfl | h, hn⟩)
          · exact .inr (.inl rfl)
          · exact .inl rfl
          · exact .inr (.inr ⟨h, hn⟩)

theorem insertCode_sorted {c : CodeRecord} {l : List CodeRecord} (sorted : l.Pairwise fun a b => a.number < b.number) :
    (insertCode c l).Pairwise fun a b => a.number < b.number := by
  induction l with
  | nil => simp [insertCode]
  | cons e l ih =>
    obtain ⟨above, rest⟩ := List.pairwise_cons.mp sorted
    unfold insertCode
    split
    · next lt =>
      refine List.pairwise_cons.mpr ⟨fun a ha => ?_, sorted⟩
      obtain rfl | ha := List.mem_cons.mp ha
      · exact lt
      · have := above a ha; omega
    · split
      · next eq => exact List.pairwise_cons.mpr ⟨fun a ha => by rw [eq]; exact above a ha, rest⟩
      · next ne =>
        refine List.pairwise_cons.mpr ⟨fun a ha => ?_, ih rest⟩
        obtain rfl | ⟨ha, -⟩ := (mem_insertCode rest).mp ha
        · omega
        · exact above a ha

section
variable {x : Option (Fin 80)} {s t : State}

@[simp] theorem State.setOwners_station (s : State) (n : Nat) (l : List (Fin 80)) (k : Fin 80) :
    (s.setOwners n l).station k = (s.station k).owned k n l := by
  simp [State.setOwners, State.station, vget]

theorem Station.owned_state (r : Station) (k : Fin 80) (n : Nat) (l : List (Fin 80)) :
    (r.owned k n l).state = r.state ∧ (r.owned k n l).pending = r.pending := by
  unfold Station.owned
  split
  · exact ⟨rfl, rfl⟩
  · split <;> exact ⟨rfl, rfl⟩

/-- The table with the record of one number replaced or removed, and the owners of its stations with it. -/
theorem CodeLaw.replace (h : CodeLaw s) {n : Nat} {new : Option CodeRecord} {l : List (Fin 80)} {table : List CodeRecord}
    (sorted : table.Pairwise fun c d => c.number < d.number)
    (mem : ∀ d, d ∈ table ↔ new = some d ∨ (d ∈ s.stations.codes ∧ d.number ≠ n))
    (good : ∀ c, new = some c → c.number = n ∧ c.stations = l ∧ c.inRange ∧ c.served s) (none_ : new = none → l = [])
    (free : ∀ k ∈ l, ∀ o, (s.station k).owner = some o → o = n)
    (codes : t.stations.codes = table) (stations : ∀ k, t.station k = (s.station k).owned k n l) : CodeLaw t := by
  have state k : (t.station k).state = (s.station k).state := by rw [stations, (Station.owned_state _ _ _ _).1]
  refine ⟨codes ▸ sorted, fun c hc => ?_, fun k m => ?_, fun c hc => ?_⟩
  · rw [codes] at hc
    obtain hn | ⟨hs, -⟩ := (mem c).mp hc
    · exact (good c hn).2.2.1
    · exact h.2.1 c hs
  · rw [codes, stations]
    by_cases hk : k ∈ l
    · rw [Station.owned, if_pos hk]
      obtain ⟨c, hc⟩ : ∃ c, new = some c := by
        cases new with
        | none => rw [none_ rfl] at hk; cases hk
        | some c => exact ⟨c, rfl⟩
      obtain ⟨number, list, -⟩ := good c hc
      constructor
      · intro e
        exact ⟨c, (mem c).mpr (.inl hc), number.trans (Option.some.inj e), list ▸ hk⟩
      · rintro ⟨d, hd, rfl, kd⟩
        obtain hn | ⟨hs, ne⟩ := (mem d).mp hd
        · rw [(good d hn).1]
        · exact absurd (free k hk _ (h.owner_of_mem hs kd)) ne
    · rw [Station.owned, if_neg hk]
      constructor
      · intro e
        split at e
        · cases e
        · next ne =>
          obtain ⟨d, hd, rfl, kd⟩ := (h.2.2.1 k m).mp e
          exact ⟨d, (mem d).mpr (.inr ⟨hd, fun same => ne (by rw [e, same])⟩), rfl, kd⟩
      · rintro ⟨d, hd, rfl, kd⟩
        obtain hn | ⟨hs, ne⟩ := (mem d).mp hd
        · exact absurd ((good d hn).2.1 ▸ kd) hk
        · have own := h.owner_of_mem hs kd
          rw [if_neg (by rw [own]; exact fun e => ne (Option.some.inj e)), own]
  · rw [codes] at hc
    obtain hn | ⟨hs, -⟩ := (mem c).mp hc
    · exact CodeRecord.served_congr (good c hn).2.2.2 state
    · exact CodeRecord.served_congr (h.served hs) state

/-- What a change of the code table asks of the other laws: the chain and every station's state and count stay. -/
theorem Supplied.withCodes (h : Supplied x s) (code : CodeLaw t) (chain : t.chain = s.chain)
    (state : ∀ k, (t.station k).state = (s.station k).state)
    (pending : ∀ k, (t.station k).pending = (s.station k).pending) : Supplied x t where
  code := code
  place := by apply h.place.congr <;> rw [chain]
  count k := by rw [pending, h.count, State.assignedTo, State.assignedTo, chain]
  rests k hk := by have := h.rests k hk; rwa [Station.rests, ← state, ← pending] at this

/-- The code table takes a record, or loses one, and the owners go with it (R41, R42). -/
theorem Supplied.replaceCode (h : Supplied x s) {n : Nat} {l : List (Fin 80)} (code : (∀ k, t.station k = (s.station k).owned k n l) →
    CodeLaw t) (recs : t.stations.recs = (s.setOwners n l).stations.recs) (chain : t.chain = s.chain) : Supplied x t := by
  have owned k : t.station k = (s.station k).owned k n l := by
    rw [← State.setOwners_station, State.station, State.station, recs]
  exact h.withCodes (code owned) chain (fun k => by rw [owned, (Station.owned_state _ _ _ _).1])
    fun k => by rw [owned, (Station.owned_state _ _ _ _).2]

theorem Supplied.defineCode (h : Supplied x s) {c0 c : CodeRecord} (ranges : c0.inRange) (selected : c = s.selectFirst c0)
    (free : s.takenStation c0.number c0.stations = none) (codes : t.stations.codes = insertCode c s.stations.codes)
    (recs : t.stations.recs = (s.setOwners c.number c.stations).stations.recs) (chain : t.chain = s.chain) :
    Supplied x t := by
  obtain ⟨number, list, inRange, served⟩ := s.selectFirst_spec ranges
  rw [← selected] at number list inRange served
  refine h.replaceCode (fun owned => h.code.replace (n := c.number) (new := some c) (l := c.stations)
    (insertCode_sorted h.code.1) (fun d => ?_) ?_ nofun (fun k hk o own => ?_) codes owned) recs chain
  · rw [mem_insertCode h.code.1, Option.some.injEq, eq_comm (a := d)]
  · rintro d ⟨⟩; exact ⟨rfl, rfl, inRange, served⟩
  · have none_ := List.find?_eq_none.mp free k (list ▸ hk)
    rw [own] at none_
    simpa [number] using none_

theorem Supplied.removeCode (h : Supplied x s) {n : Nat} (codes : t.stations.codes = s.stations.codes.filter fun c => c.number ≠ n)
    (recs : t.stations.recs = (s.setOwners n []).stations.recs) (chain : t.chain = s.chain) : Supplied x t :=
  h.replaceCode (fun owned => h.code.replace (n := n) (new := none) (l := []) (h.code.1.filter _) (fun d => by simp) nofun
    (fun _ => rfl) nofun codes owned) recs chain

/-! ## The assignment (R87, R88) -/

/-- An active station is READY (R44, R45). -/
theorem CodeLaw.activeStation_ready (h : CodeLaw s) {n : Nat} {k : Fin 80} (active : s.activeStation n = some k) :
    (s.station k).state = .ready := by
  obtain ⟨c, found, chosen⟩ := Option.bind_eq_some_iff.mp active
  have served := h.served (State.code?_eq_some found).1
  unfold CodeRecord.activeStation at chosen
  split at chosen
  · cases chosen
  · next fed =>
    rw [CodeRecord.served, if_neg fed] at served
    obtain ⟨j, at_, ready⟩ := served
    rw [chosen] at at_
    rwa [Option.some.inj at_]

/-- The assignment of the EMPTY pocket at entry to a READY station (R88). -/
theorem Supplied.assign (h : Supplied none s) {p : Fin 128} (ref : EntryRef) (src : CandidateSource) {k : Fin 80}
    (at0 : s.positionOf p = 0) (empty : (s.pocket p).state = .empty) (ready : (s.station k).state = .ready) :
    Supplied none (s.assign p ref src k) := by
  have named : ∀ j, ({ state := .assigned, entry := some ref, station := some k } : Pocket).names j = decide (j = k) :=
    fun j => by simp [Pocket.names, eq_comm]
  let t := (s.setPocket p { state := .assigned, entry := some ref, station := some k }).setStation k
    { s.station k with pending := (s.station k).pending + 1 }
  have moved : Supplied none t :=
    { code := CodeLaw.setStation (h.code.congr rfl (fun _ => rfl) fun _ => Iff.rfl) rfl Iff.rfl
      place := by
        refine PlaceLaw.congr (h.place.setPocket (p := p) (fun j _ => ?_) fun e => ?_) rfl rfl rfl rfl
        · rw [at0]; exact ⟨Nat.zero_le _, fun _ => Nat.zero_le _⟩
        · exact absurd e (h.place.stroke_ne_of_state (by rw [empty]; rfl))
      count := fun j => by
        change _ = (s.setPocket p _).assignedTo j
        have sum := s.assignedTo_setPocket p { state := .assigned, entry := some ref, station := some k } j
        rw [Pocket.names_of_not_assigned (by rw [empty]; decide), named] at sum
        have before := h.count j
        rw [State.setStation_station]
        split
        · next e =>
          subst e
          simp only [decide_true, Bool.toNat_true, Bool.toNat_false] at sum
          dsimp only
          omega
        · next ne =>
          simp only [ne, decide_false, Bool.toNat_false] at sum
          rw [State.setPocket_station]
          omega
      rests := fun j _ => by
        rw [State.setStation_station]
        split
        · next e => intro off; rw [ready] at off; simp at off
        · exact h.rests j nofun }
  refine moved.congr ?_
  unfold State.assign State.fence
  dsimp only
  repeat' split
  all_goals exact ⟨rfl, rfl, rfl, rfl, rfl, rfl⟩

theorem State.assignmentDue_empty (h : s.assignmentDue = true) : (s.pocket (s.pocketAt 0)).state = .empty := by
  simp only [State.assignmentDue, Bool.and_eq_true, decide_eq_true_eq] at h
  exact h.1.2

/-- An assignment request either changes nothing or assigns the EMPTY pocket at entry to the candidate and the active station of
its code (R87). -/
theorem State.requestAssignment_cases (s : State) (p : Fin 128) :
    s.requestAssignment p = s ∨ ∃ ref src k, s.requestAssignment p = s.assign p ref src k ∧ s.candidate = some (ref, src)
      ∧ s.activeStation (s.codeOf ref) = some k ∧ s.positionOf p = 0 ∧ (s.pocket p).state = .empty := by
  unfold State.requestAssignment
  split
  case isFalse => exact .inl rfl
  case isTrue due =>
    simp only [Bool.and_eq_true, decide_eq_true_eq] at due
    have empty : (s.pocket p).state = .empty := by
      rw [State.eq_pocketAt due.2]; exact State.assignmentDue_empty due.1
    split
    · exact .inl rfl
    · next ref src found =>
      split
      · exact .inl rfl
      · next k active => exact .inr ⟨ref, src, k, rfl, found, active, due.2, empty⟩

theorem Supplied.requestAssignment (h : Supplied none s) (p : Fin 128) : Supplied none (s.requestAssignment p) := by
  obtain same | ⟨ref, src, k, e, -, active, at0, empty⟩ := s.requestAssignment_cases p
  · rw [same]; exact h
  · rw [e]; exact h.assign ref src at0 empty (h.code.activeStation_ready active)

/-! ## The fires (R90) -/

theorem State.fireDue_names {k : Fin 80} (h : s.fireDue k = true) :
    (s.pocket (s.pocketAt (stationPosition k))).names k = true := by
  rw [State.fireDue, Bool.and_eq_true] at h
  exact Pocket.names_iff.mpr (State.assignedAt_iff.mp h.2)

theorem Supplied.fireInto (h : Supplied x s) {k : Fin 80} {p : Fin 128} (named : (s.pocket p).names k = true) :
    Supplied x (s.fireInto k p) := by
  have fired := h.release (p := p) (k := k) (r := { s.pocket p with state := .fired })
    (st := { (s.station k).countFire with lowArmed := (s.station k).lowArmed && !(s.station k).reachesLow })
    named nofun rfl rfl rfl
  unfold State.fireInto
  dsimp only
  split
  · refine Supplied.congr ?_ (State.raise_steady _ _ _ _).sameSupply
    split <;> exact fired.congr ⟨rfl, rfl, rfl, rfl, rfl, rfl⟩
  · split <;> exact fired.congr ⟨rfl, rfl, rfl, rfl, rfl, rfl⟩

theorem Supplied.fire (h : Supplied x s) (k : Fin 80) : Supplied x (s.fire k) := by
  unfold State.fire
  split
  · next due => exact h.fireInto (State.fireDue_names due)
  · exact h

theorem Supplied.fireAll (h : Supplied x s) : Supplied x s.fireAll :=
  State.fireAll_keeps (P := Supplied x) (fun _ k hs => hs.fire k) s h

/-! ## The verifier (R110 to R115) -/

theorem Supplied.passUnmeasured (h : Supplied x s) {p : Fin 128} (loaded : (s.pocket p).state = .loaded) (ref : EntryRef)
    (k : Fin 80) (code : Nat) (kind : VerifyKind) : Supplied x (s.passUnmeasured p ref k code kind) :=
  (h.setPocket_held (p := p) (r := { s.pocket p with state := .verified, result := none }) (by simp [loaded])
    (by simp [loaded, PocketState.dumped]) nofun).congr ⟨rfl, rfl, rfl, rfl, rfl, rfl⟩

theorem State.verifyWanted_loaded (h : s.verifyWanted = true) : (s.pocket (s.pocketAt 88)).state = .loaded := by
  simp only [State.verifyWanted, Bool.and_eq_true, decide_eq_true_eq] at h
  exact h.2

theorem Supplied.startMeasurement (h : Supplied x s) : Supplied x s.startMeasurement := by
  unfold State.startMeasurement
  dsimp only
  split
  case isFalse => exact h
  case isTrue due =>
    have loaded := State.verifyWanted_loaded (Bool.and_eq_true_iff.mp due).1
    split
    · split
      · exact h
      · split
        · exact h.passUnmeasured loaded _ _ _ _
        · split
          · exact h.passUnmeasured loaded _ _ _ _
          · exact h.congr ⟨rfl, rfl, rfl, rfl, rfl, rfl⟩
    · exact h

/-- Three parts of one event keep what each of them keeps, in every order. -/
theorem inOrder3_keeps {P : State → Prop} {a b c : State → State} (n : Nat) (ha : ∀ s, P s → P (a s))
    (hb : ∀ s, P s → P (b s)) (hc : ∀ s, P s → P (c s)) {s : State} (h : P s) : P (inOrder3 n a b c s) := by
  unfold inOrder3
  split
  · exact hc _ (hb _ (ha _ h))
  · exact hb _ (hc _ (ha _ h))
  · exact hc _ (ha _ (hb _ h))
  · exact ha _ (hc _ (hb _ h))
  · exact hb _ (ha _ (hc _ h))
  · exact ha _ (hb _ (hc _ h))

theorem State.raiseReject_steady (s : State) (m : Measurement) (r : VerifyResult) (d : Option Nat) :
    Steady s (s.raiseReject m r d) := s.raise_steady _ _ _

theorem Supplied.rejectPocket (h : Supplied none s) {m : Measurement} (loaded : (s.pocket m.pocket).state = .loaded)
    (r : VerifyResult) (reading : Option Nat) : Supplied none (s.rejectPocket m r reading) := by
  have rejected := h.setPocket_held (p := m.pocket) (r := { state := .rejected, result := some r, cause := some .verify })
    (by simp [loaded]) (by simp [loaded, PocketState.dumped]) nofun
  unfold State.rejectPocket
  refine inOrder3_keeps _ (fun _ hs => ?_) (fun _ hs => ?_) (fun _ hs => ?_) ?_
  · exact hs.congr (State.fallBack_steady _ _ _ _).sameSupply
  · exact hs.failNotice _
  · exact hs.congr (State.raiseReject_steady _ _ _ _).sameSupply
  · exact rejected.congr ⟨rfl, rfl, rfl, rfl, rfl, rfl⟩

theorem Supplied.passPocket (h : Supplied none s) {m : Measurement} (loaded : (s.pocket m.pocket).state = .loaded) :
    Supplied none (s.passPocket m) := by
  have passed := h.setPocket_held (p := m.pocket)
    (r := { s.pocket m.pocket with state := .verified, result := some .pass }) (by simp [loaded])
    (by simp [loaded, PocketState.dumped]) nofun
  unfold State.passPocket
  refine Supplied.passNotice ?_ m.station
  exact passed.congr ⟨rfl, rfl, rfl, rfl, rfl, rfl⟩

theorem Supplied.judgePocket (h : Supplied none s) (m : Measurement) (r : VerifyResult) (reading : Option Nat) :
    Supplied none (s.judgePocket m r reading) := by
  unfold State.judgePocket
  split
  · next loaded => exact h.passPocket loaded
  · next loaded _ => exact h.rejectPocket loaded _ _
  · next orphan =>
    exact h.setPocket (by simp [orphan]) (by simp [orphan]) fun _ => by simp [orphan, PocketState.dumped]
  · exact h

theorem Supplied.completeMeasurement (h : Supplied none s) (forward reverse : Nat) :
    Supplied none (s.completeMeasurement forward reverse) := by
  unfold State.completeMeasurement
  split
  · exact h
  · split
    · refine Supplied.judgePocket ?_ _ _ _
      exact h.congr ⟨rfl, rfl, rfl, rfl, rfl, rfl⟩
    · exact h

/-! ## The index and the presence check (R11 to R16) -/

/-- An index that is due finds no reason against it (R9, R11). -/
theorem State.indexDue_clear (h : s.indexDue = true) :
    s.line = .running ∧ (∀ k, s.assignedAt k = false) ∧ s.chain.gateStroke = none ∧ s.verifier.flight = none
      ∧ (s.pocket (s.pocketAt 88)).state ≠ .loaded ∧ (s.pocket (s.pocketAt 96)).state ≠ .verified
      ∧ s.head.state ≠ .pickStroke := by
  obtain ⟨-, running, -, clear⟩ := State.indexDue_iff.mp h
  obtain ⟨fire, verify, gate, transfer⟩ := State.holdEmpty_iff.mp clear
  rw [← Bool.not_eq_true, State.holdFire_iff] at fire
  rw [← Bool.not_eq_true, State.holdVerify_iff] at verify
  rw [← Bool.not_eq_true, State.holdGate_iff] at gate
  rw [← Bool.not_eq_true, State.holdTransfer_iff] at transfer
  have working : s.working = true := State.working_iff.mpr (.inl running)
  refine ⟨running, fun k => ?_, ?_, ?_, ?_, ?_, ?_⟩
  · rw [← Bool.not_eq_true]; exact fun at_ => fire (.inl ⟨working, k, at_⟩)
  · simpa using fun e => gate (.inr e)
  · simpa using fun e => verify (.inr e)
  · exact fun e => verify (.inl ⟨working, e⟩)
  · exact fun e => transfer (.inl ⟨working, e⟩)
  · exact fun e => transfer (.inr e)

theorem State.stationPosition_of_val {p : Fin 128} {k : Fin 80} (h : (s.positionOf p).val = k.val + 1) :
    p = s.pocketAt (stationPosition k) := State.eq_pocketAt (Fin.ext h)

/-- With no ASSIGNED pocket at its station and no gate stroke, the index may leave its rest. -/
theorem PlaceLaw.startIndex (h : PlaceLaw s) (none_ : ∀ k, s.assignedAt k = false) (stroke : s.chain.gateStroke = none)
    {t : State} (pockets : t.chain.pockets = s.chain.pockets) (c : t.chain.c = s.chain.c)
    (gate : t.chain.gateStroke = s.chain.gateStroke) : PlaceLaw t := by
  have pocket p : t.pocket p = s.pocket p := by simp only [State.pocket, pockets]
  have position p : t.positionOf p = s.positionOf p := by simp only [State.positionOf, c]
  refine placeLaw_iff.mpr ⟨fun p k named => ?_, fun p e => by rw [gate, stroke] at e; cases e⟩
  rw [pocket] at named
  rw [position]
  obtain ⟨reach, -⟩ := (placeLaw_iff.mp h).1 p k named
  refine ⟨reach, fun _ => ?_⟩
  by_contra past
  have at_ := State.stationPosition_of_val (s := s) (p := p) (k := k) (by omega)
  have := State.assignedAt_iff.mpr (at_ ▸ Pocket.names_iff.mp named)
  rw [none_ k] at this
  cases this

theorem State.driveIndex_chain (s : State) :
    s.driveIndex.chain = { s.chain with index := .inFlight, indexDrive := true } := by simp [State.driveIndex]

theorem State.driveIndex_stations (s : State) : s.driveIndex.stations = s.stations := by simp [State.driveIndex]

theorem Supplied.requestIndex (h : Supplied x s) : Supplied x s.requestIndex := by
  unfold State.requestIndex
  split
  case isFalse => exact h
  case isTrue due =>
    obtain ⟨-, none_, stroke, -⟩ := State.indexDue_clear due
    have station k : s.driveIndex.station k = s.station k := by simp only [State.station, State.driveIndex_stations]
    exact
      { code := h.code.congr (by rw [State.driveIndex_stations]) (fun k => by rw [station]) fun k => by rw [station]
        place := by
          apply h.place.startIndex none_ stroke <;> rw [State.driveIndex_chain]
        count := fun k => by
          rw [station, h.count, State.assignedTo, State.assignedTo, State.driveIndex_chain]
        rests := fun k hk => by rw [station]; exact h.rests k hk }

/-- The index state may change between IN_FLIGHT and INTERRUPTED (R14). -/
theorem Supplied.offRest (h : Supplied x s) (moving : s.chain.index ≠ .idle)
    (pockets : t.chain.pockets = s.chain.pockets) (c : t.chain.c = s.chain.c)
    (stroke : t.chain.gateStroke = s.chain.gateStroke) (off : t.chain.index ≠ .idle) (stations : t.stations = s.stations) :
    Supplied x t where
  code := h.code.congr (by rw [stations]) (fun k => by simp only [State.station, stations])
    fun k => by simp only [State.station, stations]
  place := by
    have := h.place
    simp only [PlaceLaw, State.pocket, State.positionOf, pockets, c, stroke] at this ⊢
    simpa only [ne_eq, moving, off] using this
  count k := by rw [State.station, stations, State.assignedTo, pockets]; exact h.count k
  rests k hk := by rw [State.station, stations]; exact h.rests k hk

theorem Supplied.interruptIndex (h : Supplied x s) : Supplied x s.interruptIndex := by
  unfold State.interruptIndex
  split
  · next e => exact h.offRest (by rw [e]; decide) (by simp) (by simp) (by simp) (by simp) (by simp)
  · exact h

theorem Supplied.recoverIndex (h : Supplied x s) : Supplied x s.recoverIndex := by
  unfold State.recoverIndex
  split
  · next e =>
    exact h.offRest (by rw [e]; decide) (by rw [State.driveIndex_chain]) (by rw [State.driveIndex_chain])
      (by rw [State.driveIndex_chain]) (by rw [State.driveIndex_chain]; nofun) s.driveIndex_stations
  · exact h

/-- The two notices of a misfeed keep what each of them keeps, in either order (R16, R96). -/
theorem State.misfeedNotices_keeps {P : State → Prop} {v : Pocket} (draw : ∀ s, P s → P s.draw)
    (stc : ∀ s k, v.station = some k → P s → P (s.misfeed k))
    (bdq : ∀ s ref, v.entry = some ref → P s → P (s.fallBack ref true v.station)) {s : State} (h : P s) :
    P (s.misfeedNotices v) := by
  have toStc : ∀ s, P s → P (v.station.elim s s.misfeed) := fun s hs => by
    cases e : v.station with
    | none => exact hs
    | some k => exact stc s k e hs
  have toBdq : ∀ s, P s → P (v.entry.elim s fun ref => s.fallBack ref true v.station) := fun s hs => by
    cases e : v.entry with
    | none => exact hs
    | some ref => exact bdq s ref e hs
  unfold State.misfeedNotices
  dsimp only
  split
  · exact toStc _ (toBdq _ (draw _ h))
  · exact toBdq _ (toStc _ (draw _ h))

theorem Supplied.checkPresence (h : Supplied none s) (seen : Bool) : Supplied none (s.checkPresence seen) := by
  have away : s.chain.gateStroke ≠ some (s.pocketAt 84) := h.place.stroke_ne (by decide) (by decide)
  unfold State.checkPresence
  dsimp only
  split
  · next fired =>
    have loaded := h.setPocket (p := s.pocketAt 84) (r := { s.pocket (s.pocketAt 84) with state := .loaded })
      (by simp [fired]) nofun fun e => absurd e away
    have noticed (o : Option EntryRef) : Supplied none (o.elim (s.setPocket (s.pocketAt 84)
        { s.pocket (s.pocketAt 84) with state := .loaded }) fun ref => State.moveEntry (s.setPocket (s.pocketAt 84)
        { s.pocket (s.pocketAt 84) with state := .loaded }) ref .fired .loaded) := by
      cases o with
      | none => exact loaded
      | some ref => exact loaded.congr ⟨rfl, rfl, rfl, rfl, rfl, rfl⟩
    exact noticed _
  · next fired =>
    refine State.misfeedNotices_keeps (fun _ hs => hs.congr ⟨rfl, rfl, rfl, rfl, rfl, rfl⟩) (fun _ k _ hs => hs.misfeed k)
      (fun _ _ _ hs => hs.congr (State.fallBack_steady _ _ _ _).sameSupply) ?_
    exact h.setPocket (by simp [fired]) nofun fun e => absurd e away
  · next empty =>
    refine Supplied.congr ?_ (SameSupply.trans (State.raise_steady _ _ _ _).sameSupply ⟨rfl, rfl, rfl, rfl, rfl, rfl⟩)
    exact h.setPocket (by simp [empty]) nofun fun e => absurd e away
  · next orphan => exact h.setPocket (by simp [orphan]) nofun fun e => absurd e away
  · exact h

theorem Supplied.checkAndFire (h : Supplied none s) (seen : Bool) : Supplied none (s.checkAndFire seen) := by
  have drawn : Supplied none s.draw := h.congr ⟨rfl, rfl, rfl, rfl, rfl, rfl⟩
  unfold State.checkAndFire
  split
  · exact drawn.fireAll.checkPresence seen
  · exact (drawn.checkPresence seen).fireAll

/-- The chain one position on, at rest (R12). -/
def State.advanced (s : State) : State :=
  { s with chain := { s.chain with c := s.chain.c + 1, index := .idle, indexDrive := false, entryTaken := false } }

theorem State.advanced_positionOf (s : State) (p : Fin 128) : s.advanced.positionOf p = s.positionOf p + 1 := by
  simp [State.positionOf, State.advanced, add_assoc]

theorem State.advanced_position_val {p : Fin 128} (h : (s.positionOf p).val < 127) :
    (s.advanced.positionOf p).val = (s.positionOf p).val + 1 := by
  rw [State.advanced_positionOf]
  exact Fin.val_add_one_of_lt (Fin.lt_def.mpr h)

theorem State.completeIndex_eq (s : State) (seen : Bool) : s.completeIndex seen =
    if s.chain.index = .inFlight then ((s.advanced.stopWatch .chain).checkAndFire seen).startMeasurement else s := rfl

theorem Supplied.advanced (h : Supplied x s) (moving : s.chain.index = .inFlight) : Supplied x s.advanced where
  code := h.code.congr rfl (fun _ => rfl) fun _ => Iff.rfl
  place := by
    obtain ⟨places, gate⟩ := placeLaw_iff.mp h.place
    refine placeLaw_iff.mpr ⟨fun p k named => ?_, fun p e => ?_⟩
    · have before := (places p k named).2 (by rw [moving]; decide)
      have := State.advanced_position_val (s := s) (p := p) (by omega)
      exact ⟨by omega, fun off => absurd rfl off⟩
    · obtain ⟨dumped, at90 | ⟨-, idle⟩⟩ := gate p e
      · exact ⟨dumped, .inr ⟨by rw [State.advanced_positionOf, at90]; rfl, rfl⟩⟩
      · rw [moving] at idle; cases idle
  count := h.count
  rests := h.rests

theorem Supplied.completeIndex (h : Supplied none s) (seen : Bool) : Supplied none (s.completeIndex seen) := by
  rw [State.completeIndex_eq]
  split
  · next moving =>
    exact (((h.advanced moving).congr (State.stopWatch_steady _ _).sameSupply).checkAndFire seen).startMeasurement
  · exact h

/-! ## The gate, the end of an event, and the pick (R17, R18, R142, R143) -/

theorem State.gateDue_dumped (h : s.gateDue = true) : (s.pocket (s.pocketAt 90)).state.dumped = true := by
  simp only [State.gateDue, State.gateWanted, Bool.and_eq_true] at h
  exact h.1.2

theorem State.startStroke_chain (s : State) : s.startStroke.chain =
    if s.gateDue then { s.chain with gateStroke := some (s.pocketAt 90), gateOutput := true } else s.chain := by
  unfold State.startStroke
  split <;> simp

theorem State.startStroke_stations (s : State) : s.startStroke.stations = s.stations := by
  unfold State.startStroke
  split <;> simp

/-- A change of the gate stroke alone. -/
theorem Supplied.withStroke (h : Supplied x s) (place : PlaceLaw t) (pockets : t.chain.pockets = s.chain.pockets)
    (stations : t.stations = s.stations) : Supplied x t where
  code := h.code.congr (by rw [stations]) (fun k => by simp only [State.station, stations])
    fun k => by simp only [State.station, stations]
  place := place
  count k := by rw [State.station, stations, State.assignedTo, pockets]; exact h.count k
  rests k hk := by rw [State.station, stations]; exact h.rests k hk

theorem Supplied.startStroke (h : Supplied x s) : Supplied x s.startStroke := by
  by_cases due : s.gateDue = true
  · have chain := s.startStroke_chain
    rw [if_pos due] at chain
    refine h.withStroke ?_ (by rw [chain]) s.startStroke_stations
    have := h.place
    simp only [PlaceLaw, State.pocket, State.positionOf, chain] at this ⊢
    refine ⟨this.1, ?_⟩
    rintro p ⟨⟩
    exact ⟨PocketState.dumped_iff.mp (State.gateDue_dumped due), .inl (s.positionOf_pocketAt 90)⟩
  · unfold State.startStroke; rw [if_neg due]; exact h

theorem Supplied.judge (h : Supplied x s) : Supplied x s.judge := by
  obtain ⟨u, before, after⟩ := s.judge_steady
  exact ((h.congr before.sameSupply).startStroke).congr after.sameSupply

theorem Supplied.completeStroke (h : Supplied x s) : Supplied x s.completeStroke := by
  unfold State.completeStroke
  split
  · exact h
  · next p stroke =>
    have dumped := ((placeLaw_iff.mp h.place).2 p stroke).1
    have clear : Supplied x { s with chain := { s.chain with gateStroke := none, gateOutput := false } } :=
      h.withStroke (placeLaw_iff.mpr ⟨(placeLaw_iff.mp h.place).1, nofun⟩) rfl rfl
    refine Supplied.congr ?_ (State.stopWatch_steady _ _).sameSupply
    refine (clear.setPocket (p := p) (r := Pocket.emptied) (fun e => ?_) nofun nofun).congr ⟨rfl, rfl, rfl, rfl, rfl, rfl⟩
    rw [show (s.pocket p).state = .assigned from e] at dumped
    cases dumped

/-- A pocket at the transfer point emptied: no ASSIGNED pocket that names a station has come so far, and the gate is past. -/
theorem Supplied.emptyTransfer (h : Supplied x s) : Supplied x (s.setPocket (s.pocketAt 96) Pocket.emptied) where
  code := h.code.congr rfl (fun _ => rfl) fun _ => Iff.rfl
  place := h.place.setPocket (fun k hk => by simp [Pocket.names_iff, Pocket.emptied] at hk) fun e =>
    absurd e (h.place.stroke_ne (by decide) (by decide))
  count k := by
    have sum := s.assignedTo_setPocket (s.pocketAt 96) Pocket.emptied k
    have old : (s.pocket (s.pocketAt 96)).names k = false := by
      rw [Bool.eq_false_iff]
      intro named
      have := ((placeLaw_iff.mp h.place).1 _ k named).1
      rw [State.positionOf_pocketAt] at this
      have : (96 : Fin 128).val = 96 := rfl
      omega
    rw [old] at sum
    rw [State.setPocket_station, h.count]
    exact sum.symm
  rests := h.rests

/-- A pocket given up by the host: withdrawn or orphaned (R5, R8). -/
theorem Supplied.releasePocket (h : Supplied x s) (e : Entry) (cause : PocketCause) :
    Supplied x (s.releasePocket e cause) := by
  unfold State.releasePocket
  split
  · exact h
  · next p _ =>
    have orphaned : Supplied x (s.orphan p cause) := by
      unfold State.orphan
      dsimp only
      split
      case h_4 => exact h
      all_goals next st => exact h.setPocket_held (by simp [st]) (by simp [st, PocketState.dumped]) nofun
    split
    · exact h.withdraw p
    · exact orphaned
    · exact orphaned
    · exact orphaned
    · exact h

end

end Sys2Proof.Machine

/-! PROOFS. One walk over every row: a property that each owner's action, each event of the world, a reset and a passing ms keep,
and that does not read the link or the queue of waiting commands, is kept by every step. -/

namespace Sys2Proof.Machine

/-- The rows that are no frame of the host, none of the link's own and no reset: the starts, the ends and the arrivals. -/
def mechanical : Instr → Bool
  | .indexRequest | .indexCompletion _ | .chainJam | .assignment _ | .fire _ | .fireDwellEnd _ | .gateStrokeStart
  | .gateStrokeCompletion | .gateJam | .measurementStart | .measurementCompletion .. | .homeSwitchArrival ..
  | .homingParkSettled _ | .tableTimeout | .encoderCount .. | .entryMoveStart | .loadMoveStart | .axisProfileComplete _
  | .axisDecelerated .. | .tablePositioned | .pickStart | .pickCompletion | .formCompletion | .driveStart
  | .leadSensorArrival _ | .driveCompletion | .clinchCompletion .. | .clinchHomeArrival _ | .headTopArrival _
  | .discardStart | .jawsOpenArrival _ | .headJam | .spanTimeout | .loadStart | .entrySensorArrival _
  | .stopSensorArrival _ | .clampClosedArrival _ | .unloadStart | .clampOpenArrival _ | .exitRunStart
  | .exitSensorArrival _ | .conveyorJam | .boardLate _ | .rawInputChange .. | .debouncedArrival _ | .estopArrival
  | .estopRelease => true
  | _ => false

/-- What a walk over the rows asks of a property. -/
structure Walked (P : State → Prop) : Prop where
  link : ∀ s l, P s → P { s with link := l }
  queue : ∀ s q, P s → P { s with pending := q }
  act : ∀ i s, P s → P (act i s).1
  row : ∀ i s t, mechanical i = true → P s → exec i s = .next t → P t
  reset : ∀ (s : State) cause lv, P (s.resetWith cause lv)
  tick : ∀ s, P s → P s.tick.judge

section
variable {P : State → Prop} {s : State}

theorem Walked.answer (w : Walked P) (h : P s) (kind tag : Byte) {f : State → Acted} (hf : ∀ u, P u → P (f u).1) :
    P (s.answer kind tag f) := w.link _ _ (hf s h)

theorem Walked.perform (w : Walked P) (h : P s) (f : Frame) : P (s.perform f) := by
  unfold State.perform
  split
  · exact w.answer h _ _ fun _ hu => hu
  · exact w.answer h _ _ fun _ hu => hu
  · exact w.answer h _ _ fun u hu => w.act _ u hu

theorem Walked.drain (w : Walked P) (n : Nat) (h : P s) : P (drain n s) := by
  induction n generalizing s with
  | zero => exact h
  | succ n ih =>
    unfold Machine.drain
    split
    · exact h
    · split
      · exact ih (w.perform (w.link _ _ h) _)
      · exact h

theorem Walked.enqueue (w : Walked P) (h : P s) (f : Frame) : P (s.enqueue f) := by
  unfold State.enqueue
  split
  · exact w.drain _ (w.link _ _ (w.link _ _ h))
  · exact w.link _ _ h

theorem Walked.receive (w : Walked P) (h : P s) (f : Frame) : P (s.receive f) := by
  unfold State.receive
  split
  · exact w.link _ _ h
  · exact w.enqueue h f

theorem Walked.command (w : Walked P) (h : P s) (i : Instr) (kind tag : Byte) : P (s.command i kind tag) := by
  unfold State.command
  split
  · exact w.answer (w.link _ _ h) _ _ fun u hu => w.act i u hu
  · split
    · exact w.enqueue h _
    · exact h

theorem Walked.huntByte (w : Walked P) (h : P s) (b : Byte) : P (s.huntByte b) := by
  unfold State.huntByte
  split
  · exact w.link _ _ h
  · exact h

theorem Walked.gather (w : Walked P) (h : P s) (bytes : List Byte) : P (s.gather bytes) := by
  unfold State.gather
  split
  · exact w.link _ _ h
  · split
    · split
      · exact w.link _ _ h
      · exact w.receive (w.link _ _ h) _
    · exact w.link _ _ h

theorem Walked.receiveByte (w : Walked P) (h : P s) (b : Byte) : P (s.receiveByte b) := by
  unfold State.receiveByte
  split
  · exact w.huntByte h b
  · split
    · exact w.huntByte (w.link _ _ h) b
    · exact w.gather h _

theorem Walked.sent (w : Walked P) (h : P s) (baud1 baud0 : Bool) : P (s.sent baud1 baud0) := by
  unfold State.sent
  split
  · exact h
  · split
    · exact w.reset _ _ _
    · exact w.drain _ (w.link _ _ h)

/-- Every row keeps the property: the host's frames by the owners' actions, the link's own rows by the link. -/
theorem Walked.exec (w : Walked P) (i : Instr) {t : State} (h : P s) (e : exec i s = .next t) : P t := by
  have next {u : State} (hu : P u) (same : Host.Outcome.next u = (.next t : Host.Outcome State Fault Refusal)) : P t :=
    Host.Outcome.next.inj same ▸ hu
  cases i
  case rxCharacter b stopBit =>
    refine next ?_ e
    split
    · exact w.receiveByte h b
    · exact h
  case gapTimeout =>
    refine next ?_ e
    split
    · exact w.link _ _ h
    · exact h
  case frameSent baud1 baud0 => exact next (w.sent h baud1 baud0) e
  case powerOn lv => exact next (w.reset s _ lv) e
  case resetPin lv => exact next (w.reset s _ lv) e
  case unknownKindCommand kind tag payload => exact next (w.receive h _) e
  all_goals
    first
    | exact w.row _ s t rfl h e
    | exact next (w.command h _ _ _) e

/-- What a walk asks for is all that a step needs. -/
theorem Walked.kept (w : Walked P) : KeptByEveryStep P := by
  intro s t h e
  unfold step at e
  split at e
  · exact w.exec _ (w.queue s _ h) e
  · unfold State.idle at e
    split at e
    · exact w.exec _ h e
    · exact Host.Outcome.next.inj e ▸ w.tick s h

end

end Sys2Proof.Machine

/-! PROOFS. The supply laws are kept by every step (R25): what the other blocks do leaves the chain and the stations alone. -/

namespace Sys2Proof.Machine

section
variable {s : State}

/-! ## The head (chapter 8) -/

theorem State.enterRise_same (s : State) : SameSupply s s.enterRise :=
  (State.startWatch_steady _ _ _).sameSupply.after (sameSupply_of_eq rfl rfl)

theorem State.enterWait_same (s : State) : SameSupply s s.enterWait :=
  (State.stopWatch_steady _ _).sameSupply.after (sameSupply_of_eq rfl rfl)

theorem State.enterClinch_same (s : State) (d : ClinchDir) : SameSupply s (s.enterClinch d) :=
  (State.startWatch_steady _ _ _).sameSupply.after (sameSupply_of_eq rfl rfl)

theorem State.takeUnowned_same (s : State) : SameSupply s s.takeUnowned := by
  unfold State.takeUnowned
  dsimp only
  split
  · exact (State.enterDiscard_steady _).sameSupply.after (sameSupply_of_eq rfl rfl)
  · exact (State.enterWait_same _).after (sameSupply_of_eq rfl rfl)

theorem State.takeEntry_same (s : State) (ref : EntryRef) : SameSupply s (s.takeEntry ref) := by
  unfold State.takeEntry
  split
  · exact s.takeUnowned_same
  · exact ⟨rfl, rfl, rfl, rfl, rfl, rfl⟩

theorem State.insertHeld_same (s : State) : SameSupply s s.insertHeld := by
  unfold State.insertHeld
  split
  · exact SameSupply.refl s
  · exact (s.noticeOutcome_steady _ _).sameSupply.trans ⟨rfl, rfl, rfl, rfl, rfl, rfl⟩

theorem State.unclinchHeld_same (s : State) : SameSupply s s.unclinchHeld := by
  unfold State.unclinchHeld
  split
  · exact SameSupply.refl s
  · exact (s.noticeOutcome_steady _ _).sameSupply.trans ⟨rfl, rfl, rfl, rfl, rfl, rfl⟩

theorem State.completeForm_same (s : State) : SameSupply s s.completeForm := by
  unfold State.completeForm
  split
  · exact (State.enterWait_same _).after (sameSupply_of_eq rfl rfl)
  · exact SameSupply.refl s

theorem State.missLead_same (s : State) (d : Nat) : SameSupply s (s.missLead d) :=
  ((s.failHeld_steady _ _).sameSupply.trans (State.enterRise_same _)).trans (State.raise_steady _ _ _ _).sameSupply

theorem State.completeDrive_same (s : State) : SameSupply s s.completeDrive := by
  unfold State.completeDrive
  split
  · split
    · split
      · exact s.enterClinch_same _
      · exact s.insertHeld_same.trans (State.enterRise_same _)
    · exact s.missLead_same _
  · exact SameSupply.refl s

theorem State.completeClinch_same (s : State) (l r : Bool) : SameSupply s (s.completeClinch l r) := by
  unfold State.completeClinch
  dsimp only
  split
  · split
    · exact (State.enterRise_same _).after ((State.insertHeld_same _).after (sameSupply_of_eq rfl rfl))
    · exact (State.raise_steady _ _ _ _).sameSupply.after ((State.enterRise_same _).after
        ((State.unclinchHeld_same _).after (sameSupply_of_eq rfl rfl)))
  · exact SameSupply.refl s

theorem State.clinchHomeArrival_same (s : State) (made : Bool) : SameSupply s (s.clinchHomeArrival made) := by
  unfold State.clinchHomeArrival
  dsimp only
  split <;> exact ⟨rfl, rfl, rfl, rfl, rfl, rfl⟩

theorem State.headTopArrival_same (s : State) (made : Bool) : SameSupply s (s.headTopArrival made) := by
  unfold State.headTopArrival
  dsimp only
  split
  · exact (State.noticeHalted_steady _ _).sameSupply.after
      ((State.enterTop_steady _).sameSupply.after (sameSupply_of_eq rfl rfl))
  · exact ⟨rfl, rfl, rfl, rfl, rfl, rfl⟩

theorem State.resumeFrom_same (s : State) (src : HaltedFrom) : SameSupply s (s.resumeFrom src) := by
  have resumed : SameSupply s s.resumeSpanWait := by
    unfold State.resumeSpanWait
    dsimp only
    split
    · split
      · exact (State.startSpan_steady _ _).sameSupply.after (sameSupply_of_eq rfl rfl)
      · exact ⟨rfl, rfl, rfl, rfl, rfl, rfl⟩
    · exact ⟨rfl, rfl, rfl, rfl, rfl, rfl⟩
  cases src
  case pickStroke => exact s.enterPick_steady.sameSupply
  case pickSpanWait => exact resumed
  case form =>
    unfold State.resumeFrom
    dsimp only
    split
    · exact s.enterDiscard_steady.sameSupply
    · exact s.enterForm_steady.sameSupply
  case wait =>
    unfold State.resumeFrom
    dsimp only
    split
    · exact s.enterDiscard_steady.sameSupply
    · exact s.enterWait_same
  case discard => exact s.enterDiscard_steady.sameSupply
  all_goals exact s.enterRise_same

theorem State.leaveHalted_same (s : State) (airLost : Bool) : SameSupply s (s.leaveHalted airLost) := by
  unfold State.leaveHalted
  split
  · exact (s.noticeHalted_steady _).sameSupply
  · exact (State.noticeHalted_steady _ _).sameSupply.after (sameSupply_of_eq rfl rfl)

theorem State.recoverHead_same (s : State) : SameSupply s s.recoverHead := by
  unfold State.recoverHead
  split
  · dsimp only
    split
    · exact (s.leaveHalted_same _).trans (State.enterRise_same _)
    · exact (s.leaveHalted_same _).trans (State.resumeFrom_same _ _)
  · exact ⟨rfl, rfl, rfl, rfl, rfl, rfl⟩

theorem Supplied.completePick {x : Option (Fin 80)} (h : Supplied x s) : Supplied x s.completePick := by
  unfold State.completePick
  dsimp only
  split
  · split
    · refine Supplied.congr ?_ (State.takeEntry_same _ _)
      exact h.emptyTransfer.congr ((State.stopWatch_steady _ _).sameSupply.after (sameSupply_of_eq rfl rfl))
    · refine Supplied.congr ?_ (State.takeUnowned_same _)
      exact h.emptyTransfer.congr ((State.stopWatch_steady _ _).sameSupply.after (sameSupply_of_eq rfl rfl))
  · exact h

/-! ## The table, its homings and the conveyor (chapters 7 and 9) -/

theorem State.setAxis_same (s : State) (a : Axis) (v : AxisRec) : SameSupply s (s.setAxis a v) :=
  sameSupply_of_eq (s.setAxis_chain a v) (s.setAxis_stations a v)

theorem State.edgeWatch_steady (s : State) (a : Axis) : Steady s (s.edgeWatch a) := by
  unfold State.edgeWatch
  split
  · exact s.startWatch_steady _ _
  · split
    · exact Steady.refl s
    · exact s.startWatch_steady _ _

theorem State.switchEdge_same (s : State) (a : Axis) : SameSupply s (s.switchEdge a) :=
  (State.edgeWatch_steady _ _).sameSupply.after ((State.noticeHomed_steady _ _ _).sameSupply.after (s.setAxis_same _ _))

theorem State.homeSwitchArrival_same (s : State) (a : Axis) (made : Bool) : SameSupply s (s.homeSwitchArrival a made) := by
  have switched : SameSupply s { s with pins := setHomeSwitch s.pins a made } := sameSupply_of_eq rfl rfl
  unfold State.homeSwitchArrival
  dsimp only
  split
  · exact switched.trans (State.setAxis_same _ _ _)
  · exact switched.trans (State.switchEdge_same _ _)
  · exact switched

theorem State.expire_same (s : State) (w : WatchId) : SameSupply s (s.expire w) := ⟨rfl, rfl, rfl, rfl, rfl, rfl⟩

theorem State.draw_same (s : State) : SameSupply s s.draw := ⟨rfl, rfl, rfl, rfl, rfl, rfl⟩

theorem State.tableTimeout_same (s : State) : SameSupply s s.tableTimeout := by
  unfold State.tableTimeout
  split
  · exact (s.expire_same _).trans (State.raise_steady _ _ _ _).sameSupply
  · exact (State.draw_same _).after ((s.expire_same _).trans (State.raise_steady _ _ _ _).sameSupply)

theorem State.endEntryRun_same (s : State) : SameSupply s s.endEntryRun :=
  (State.stopWatch_steady _ _).sameSupply.after (sameSupply_of_eq rfl rfl)

theorem State.runExit_same (s : State) (seen : Bool) : SameSupply s (s.runExit seen) :=
  (State.startWatch_steady _ _ _).sameSupply.after (sameSupply_of_eq rfl rfl)

theorem State.endExitRun_same (s : State) : SameSupply s s.endExitRun :=
  (State.finishActive_steady _).sameSupply.after
    ((State.stopWatch_steady _ _).sameSupply.after (sameSupply_of_eq rfl rfl))

theorem State.stopSensorArrival_same (s : State) (made : Bool) : SameSupply s (s.stopSensorArrival made) := by
  unfold State.stopSensorArrival
  dsimp only
  split
  · exact (State.endEntryRun_same _).after (sameSupply_of_eq rfl rfl)
  all_goals exact ⟨rfl, rfl, rfl, rfl, rfl, rfl⟩

theorem State.confirmClamp_same (s : State) : SameSupply s s.confirmClamp := by
  unfold State.confirmClamp
  dsimp only
  split
  · exact (State.emit_steady _ _ _).sameSupply.after (sameSupply_of_eq rfl rfl)
  · exact ⟨rfl, rfl, rfl, rfl, rfl, rfl⟩

theorem State.clampClosedArrival_same (s : State) (made : Bool) : SameSupply s (s.clampClosedArrival made) := by
  unfold State.clampClosedArrival
  dsimp only
  split
  · exact (State.confirmClamp_same _).after (sameSupply_of_eq rfl rfl)
  · exact ⟨rfl, rfl, rfl, rfl, rfl, rfl⟩

theorem State.clampOpenArrival_same (s : State) (made : Bool) : SameSupply s (s.clampOpenArrival made) := by
  unfold State.clampOpenArrival
  dsimp only
  split <;> exact ⟨rfl, rfl, rfl, rfl, rfl, rfl⟩

theorem State.exitSensorArrival_same (s : State) (made : Bool) : SameSupply s (s.exitSensorArrival made) := by
  unfold State.exitSensorArrival
  dsimp only
  split
  case h_2 => exact (State.endExitRun_same _).after (sameSupply_of_eq rfl rfl)
  all_goals exact ⟨rfl, rfl, rfl, rfl, rfl, rfl⟩

theorem State.restartConveyor_same (s : State) : SameSupply s s.restartConveyor := by
  unfold State.restartConveyor
  split
  · exact s.endEntryRun_same
  · exact (State.startWatch_steady _ _ _).sameSupply.after (sameSupply_of_eq rfl rfl)
  · split
    · exact s.endExitRun_same
    · exact s.runExit_same _
  · exact SameSupply.refl s

theorem State.restartKept_same (s : State) : SameSupply s s.restartKept := by
  unfold State.restartKept
  split
  · exact SameSupply.refl s
  · split
    · exact (s.startMove_steady _).sameSupply
    · split
      · exact (s.startMove_steady _).sameSupply
      · exact ⟨rfl, rfl, rfl, rfl, rfl, rfl⟩
    · exact ⟨rfl, rfl, rfl, rfl, rfl, rfl⟩

theorem State.expireWait_same (s : State) (w : BoardWait) : SameSupply s (s.expireWait w) := by
  unfold State.expireWait
  split
  · exact SameSupply.refl s
  · refine (State.draw_same _).after ((State.raise_steady _ _ _ _).sameSupply.after ?_)
    cases w <;> exact ⟨rfl, rfl, rfl, rfl, rfl, rfl⟩

/-! ## The inputs and the emergency stop (chapter 10) -/

theorem State.levelArrival_same (s : State) (src : Source) (present : Bool) : SameSupply s (s.levelArrival src present) := by
  have noted : SameSupply s (s.setCondition src present) :=
    sameSupply_of_eq (s.setCondition_chain src present) (s.setCondition_stations src present)
  unfold State.levelArrival
  dsimp only
  split
  · exact noted.trans (State.raise_steady _ _ _ _).sameSupply
  · exact noted

theorem State.setSlow_same (s : State) (i : SlowInput) (r : SlowRec) : SameSupply s (s.setSlow i r) :=
  sameSupply_of_eq (s.setSlow_chain i r) (s.setSlow_stations i r)

theorem Supplied.slowArrival (h : Supplied none s) (i : SlowInput) : Supplied none (s.slowArrival i) := by
  cases i with
  | tape k => exact (h.congr (s.setSlow_same _ _)).tapeArrival k _
  | airOk => exact h.congr ((s.setSlow_same _ _).trans (State.levelArrival_same _ _ _))
  | guardClosed => exact h.congr ((s.setSlow_same _ _).trans (State.levelArrival_same _ _ _))

theorem Supplied.rawChange (h : Supplied none s) (i : SlowInput) (made : Bool) : Supplied none (s.rawChange i made) := by
  unfold State.rawChange
  dsimp only
  split
  · exact h
  · split
    · exact (h.congr (s.setSlow_same _ _)).slowArrival i
    · exact h.congr (s.setSlow_same _ _)

/-- What drawing a free value and the arrival of each input keep, the arrivals of one event keep (R167). -/
theorem takeArrivals_keeps {P : State → Prop} (draw : ∀ s, P s → P s.draw) (arrive : ∀ s i, P s → P (s.slowArrival i))
    (n : Nat) (l : List SlowInput) {s : State} (h : P s) : P (takeArrivals n l s) := by
  induction n generalizing l s with
  | zero => exact h
  | succ n ih =>
    cases l with
    | nil => exact h
    | cons i l =>
      refine ih _ (arrive _ _ ?_)
      split
      · exact h
      · exact draw _ h

theorem State.estopTable_same (s : State) : SameSupply s s.estopTable :=
  (State.noticeHomed_steady _ _ _).sameSupply.after ((State.noticeHomed_steady _ _ _).sameSupply.after
    ((State.noticeHomed_steady _ _ _).sameSupply.after ((State.haltWatch_steady _ _).sameSupply.after
      (sameSupply_of_eq rfl rfl))))

theorem State.estopSpan_same (s : State) : SameSupply s s.estopSpan :=
  (State.noticeHomed_steady _ _ _).sameSupply.after ((State.haltWatch_steady _ _).sameSupply.after
    (sameSupply_of_eq rfl rfl))

theorem State.estopHead_same (s : State) : SameSupply s s.estopHead :=
  (State.estopSpan_same _).after ((State.noticeHalted_steady _ _).sameSupply.after
    ((State.haltWatch_steady _ _).sameSupply.after (SameSupply.trans
      ((s.haltHead_steady).trans (State.failHeld_steady _ .lost false)).sameSupply (sameSupply_of_eq rfl rfl))))

theorem State.releaseFires_same (s : State) : SameSupply s s.releaseFires := by
  constructor <;> simp only [State.releaseFires]

theorem Supplied.estopArrive {x : Option (Fin 80)} (h : Supplied x s) : Supplied x s.estopArrive := by
  have noted : Supplied x (State.setCondition { s with inputs := { s.inputs with estop := true } } .estop true) :=
    h.congr (sameSupply_of_eq rfl rfl)
  have stopped := noted.congr (State.raise_steady _ .estop .stop {}).sameSupply
  exact ((stopped.interruptIndex.congr (State.releaseFires_same _)).congr (State.estopTable_same _)).congr
    (State.estopHead_same _)

/-! ## The rows -/

theorem Supplied.row (h : Supplied none s) (i : Instr) {t : State} (m : mechanical i = true) (e : exec i s = .next t) :
    Supplied none t := by
  have next {u : State} (hu : Supplied none u) (same : Host.Outcome.next u = (.next t : Host.Outcome State Fault Refusal)) :
      Supplied none t := Host.Outcome.next.inj same ▸ hu
  have either {p : Prop} [Decidable p] {u : State} (hu : p → Supplied none u) : Supplied none (if p then u.judge else s) := by
    split
    · next yes => exact (hu yes).judge
    · exact h
  cases i
  case indexRequest => exact next h.requestIndex.judge e
  case indexCompletion seen => exact next (h.completeIndex seen).judge e
  case chainJam =>
    exact next (either fun _ => h.congr ((s.expire_same _).trans (State.raise_steady _ _ _ _).sameSupply)) e
  case assignment p => exact next (h.requestAssignment p).judge e
  case fire k => exact next (h.fire k).judge e
  case fireDwellEnd k =>
    refine next (Supplied.judge ?_) e
    unfold State.endDwell
    split
    · exact h.congr ⟨rfl, rfl, rfl, rfl, rfl, rfl⟩
    · exact h
  case gateStrokeStart => exact next h.startStroke.judge e
  case gateStrokeCompletion => exact next h.completeStroke.judge e
  case gateJam =>
    refine next (either fun _ => ?_) e
    exact (h.congr ((s.expire_same _).trans (State.raise_steady _ _ _ _).sameSupply)).congr (State.draw_same _)
  case measurementStart => exact next h.startMeasurement.judge e
  case measurementCompletion f r => exact next (h.completeMeasurement f r).judge e
  case homeSwitchArrival a made => exact next (h.congr (s.homeSwitchArrival_same a made)).judge e
  case homingParkSettled a => exact next (either fun _ => h.congr (s.parkDone_steady a).sameSupply) e
  case tableTimeout => exact next (either fun _ => h.congr s.tableTimeout_same) e
  case encoderCount a up steps => exact next (Supplied.judge (h.congr (s.setAxis_same _ _))) e
  case entryMoveStart => exact next (h.congr s.startEntryMove_steady.sameSupply).judge e
  case loadMoveStart => exact next (h.congr s.startLoadMove_steady.sameSupply).judge e
  case axisProfileComplete a => exact next (either fun _ => h.congr (s.setAxis_same _ _)) e
  case axisDecelerated a rest => exact next (either fun _ => h.congr (s.setAxis_same _ _)) e
  case tablePositioned => exact next (either fun _ => h.congr s.positionTable_steady.sameSupply) e
  case pickStart => exact next (h.congr s.startPick_steady.sameSupply).judge e
  case pickCompletion => exact next h.completePick.judge e
  case formCompletion => exact next (h.congr s.completeForm_same).judge e
  case driveStart => exact next (h.congr s.startDrive_steady.sameSupply).judge e
  case leadSensorArrival side =>
    refine next (Supplied.judge ?_) e
    exact h.congr ⟨rfl, rfl, rfl, rfl, rfl, rfl⟩
  case driveCompletion => exact next (h.congr s.completeDrive_same).judge e
  case clinchCompletion l r => exact next (h.congr (s.completeClinch_same l r)).judge e
  case clinchHomeArrival made => exact next (h.congr (s.clinchHomeArrival_same made)).judge e
  case headTopArrival made => exact next (h.congr (s.headTopArrival_same made)).judge e
  case discardStart => exact next (h.congr s.startDiscard_steady.sameSupply).judge e
  case jawsOpenArrival made =>
    refine next (Supplied.judge ?_) e
    exact h.congr ⟨rfl, rfl, rfl, rfl, rfl, rfl⟩
  case headJam =>
    exact next (either fun _ => h.congr ((s.expire_same _).trans (State.raise_steady _ _ _ _).sameSupply)) e
  case spanTimeout =>
    exact next (either fun _ => h.congr ((s.expire_same _).trans (State.raise_steady _ _ _ _).sameSupply)) e
  case loadStart => exact next (h.congr s.startLoad_steady.sameSupply).judge e
  case entrySensorArrival made =>
    refine next (Supplied.judge ?_) e
    exact h.congr ⟨rfl, rfl, rfl, rfl, rfl, rfl⟩
  case stopSensorArrival made => exact next (h.congr (s.stopSensorArrival_same made)).judge e
  case clampClosedArrival made => exact next (h.congr (s.clampClosedArrival_same made)).judge e
  case unloadStart => exact next (h.congr s.startUnload_steady.sameSupply).judge e
  case clampOpenArrival made => exact next (h.congr (s.clampOpenArrival_same made)).judge e
  case exitRunStart => exact next (h.congr s.startExitRun_steady.sameSupply).judge e
  case exitSensorArrival made => exact next (h.congr (s.exitSensorArrival_same made)).judge e
  case conveyorJam =>
    exact next (either fun _ => h.congr ((s.expire_same _).trans (State.raise_steady _ _ _ _).sameSupply)) e
  case boardLate w => exact next (either fun _ => h.congr (s.expireWait_same w)) e
  case rawInputChange i made => exact next (h.rawChange i made).judge e
  case debouncedArrival i => exact next (either fun _ => h.slowArrival i) e
  case estopArrival =>
    refine next ?_ e
    split
    · exact h
    · exact h.estopArrive.judge
  case estopRelease =>
    refine next ?_ e
    exact h.congr ⟨rfl, rfl, rfl, rfl, rfl, rfl⟩
  all_goals cases m

/-! ## The commands -/

theorem State.accepts_state (u : State) (items : State → List Byte) : (u.accepts items).1 = u.judge := by
  simp only [State.accepts]

/-- An action that answers with its state as it is, or judged, keeps the supply laws if its own change does. -/
theorem Supplied.accepts {u : State} (h : Supplied none u) (items : State → List Byte) :
    Supplied none (u.accepts items).1 := by
  rw [State.accepts_state]
  exact h.judge

theorem Supplied.skipEntry {x : Option (Fin 80)} (h : Supplied x s) (ref : EntryRef) (e : Entry) :
    Supplied x (s.skipEntry ref e) := by
  unfold State.skipEntry
  exact (h.releasePocket e .skipped).congr (sameSupply_of_eq rfl rfl)

theorem State.discardNotice_same (s : State) (id : Nat) : SameSupply s (s.discardNotice id) := by
  unfold State.discardNotice
  split
  · split
    · exact sameSupply_of_eq rfl rfl
    · exact SameSupply.refl s
  · exact SameSupply.refl s

theorem Supplied.abandonEntries {x : Option (Fin 80)} (h : Supplied x s) (b : Board) :
    Supplied x (s.abandonEntries b) := by
  have released : Supplied x (b.entries.foldl (fun s e => s.releasePocket e .abandoned) s) := by
    generalize b.entries = l
    induction l generalizing s with
    | nil => exact h
    | cons e l ih => exact ih (h.releasePocket e .abandoned)
  unfold State.abandonEntries
  refine Supplied.congr ?_ (State.discardNotice_same _ _)
  exact released.congr (sameSupply_of_eq rfl rfl)

theorem State.removeNext_same (s : State) : SameSupply s s.removeNext := by
  unfold State.removeNext
  split
  · exact SameSupply.refl s
  · exact (s.emit_steady _ _).sameSupply.trans (sameSupply_of_eq rfl rfl)

theorem State.setStore_same (s : State) (st : Store) (o : ProgramOutcome) : SameSupply s (s.setStore st o) :=
  (State.noticeProgram_steady _ _).sameSupply.after (sameSupply_of_eq rfl rfl)

theorem State.startHoming_same (s : State) (a : Axis) : SameSupply s (s.startHoming a) := s.setAxis_same a _

theorem State.homeTable_same (s : State) (n : Nat) : SameSupply s (s.homeTable n) := by
  unfold State.homeTable
  split
  · exact (State.startWatch_steady _ _ _).sameSupply.after (sameSupply_of_eq rfl rfl)
  · exact SameSupply.refl s

theorem State.homeSpan_same (s : State) (n : Nat) : SameSupply s (s.homeSpan n) := by
  unfold State.homeSpan
  split
  · exact (State.startWatch_steady _ _ _).sameSupply.after (sameSupply_of_eq rfl rfl)
  · exact SameSupply.refl s

theorem sameSupply_foldl {α : Type} {f : State → α → State} (hf : ∀ s a, SameSupply s (f s a)) (l : List α) (s : State) :
    SameSupply s (l.foldl f s) := by
  induction l generalizing s with
  | nil => exact SameSupply.refl s
  | cons a l ih => exact (hf s a).trans (ih _)

theorem State.noticeUnhomed_same (s : State) (l : List Axis) : SameSupply s (s.noticeUnhomed l) := by
  cases l with
  | nil => exact SameSupply.refl s
  | cons a l =>
    refine SameSupply.after (sameSupply_foldl (fun s a => (s.noticeHomed_steady a false).sameSupply) _ _) ?_
    split
    · exact SameSupply.refl s
    · exact s.draw_same

theorem State.ackSource_same (s : State) (src : Source) : SameSupply s (s.ackSource src) := by
  unfold State.ackSource
  split
  · exact sameSupply_of_eq rfl rfl
  · exact SameSupply.refl s

theorem State.setOwners_codes (s : State) (n : Nat) (l : List (Fin 80)) :
    (s.setOwners n l).stations.codes = s.stations.codes := by simp only [State.setOwners]

theorem State.setOwners_chain (s : State) (n : Nat) (l : List (Fin 80)) : (s.setOwners n l).chain = s.chain := by
  simp only [State.setOwners]

theorem Supplied.actDefineCode (h : Supplied none s) (f : CodeFields) : Supplied none (actDefineCode f s).1 := by
  unfold Machine.actDefineCode
  split
  · exact h
  · next c0 record =>
    split
    · exact h
    · split
      · exact h
      · next free =>
        refine Supplied.accepts ?_ _
        exact h.defineCode (codeRecord?_eq_some record).2 rfl free (by simp only [State.setOwners_codes]) rfl
          (by simp only [State.setOwners_chain])

theorem Supplied.actRemoveCode (h : Supplied none s) (n : Nat) : Supplied none (actRemoveCode n s).1 := by
  unfold Machine.actRemoveCode
  split
  · exact h
  · split
    · exact h
    · split
      · exact h
      · refine Supplied.accepts ?_ _
        exact h.removeCode (n := n) (by simp only [State.setOwners_codes]) rfl (by simp only [State.setOwners_chain])

theorem Supplied.actLoadStation (h : Supplied none s) (n count low : Nat) :
    Supplied none (actLoadStation n count low s).1 := by
  unfold Machine.actLoadStation
  split
  · exact h
  · next k _ =>
    dsimp only
    split
    · exact h
    · split
      · exact h
      · split
        · exact h
        · have loaded : Supplied none (s.setStation k { s.station k with
              reel := count, load := count, low := low, lowArmed := decide (low ≠ 0 ∧ low < count), underrun := false
              failRun := 0 }) := h.setStation rfl rfl rfl
          refine Supplied.accepts ?_ _
          split
          · exact loaded
          · exact loaded.moveStation_free k .ready fun off => by simp at off

theorem Supplied.actLockStation (h : Supplied none s) (n : Nat) : Supplied none (actLockStation n s).1 := by
  have locked (k : Fin 80) :
      Supplied none (s.moveStation k (if (s.station k).pending = 0 then .locked else .locking)) := by
    refine h.moveStation_free k _ fun off => ?_
    dsimp only at off ⊢
    by_contra some_
    simp [some_] at off
  unfold Machine.actLockStation
  split
  · exact h
  · dsimp only
    split
    · exact Supplied.accepts (locked _) _
    · exact Supplied.accepts (locked _) _
    all_goals exact h

theorem Station.backState_rests (r : Station) : ({ r with state := r.backState } : Station).rests := by
  unfold Station.rests Station.backState
  cases r.tape <;> simp

theorem Supplied.actUnlockStation (h : Supplied none s) (n : Nat) : Supplied none (actUnlockStation n s).1 := by
  unfold Machine.actUnlockStation
  split
  · exact h
  · next k _ =>
    have back := h.moveStation_free k (s.station k).backState (s.station k).backState_rests
    dsimp only
    split
    · exact Supplied.accepts back _
    · exact Supplied.accepts back _
    all_goals exact h

theorem Supplied.actResetStation (h : Supplied none s) (n : Nat) : Supplied none (actResetStation n s).1 := by
  unfold Machine.actResetStation
  split
  · exact h
  · next k _ =>
    have counted : Supplied none (s.setStation k { s.station k with failRun := 0 }) := h.setStation rfl rfl rfl
    have back := counted.moveStation_free k (s.station k).backState (by
      rw [State.setStation_station, if_pos rfl]; exact (s.station k).backState_rests)
    dsimp only
    split
    · exact Supplied.accepts back _
    · exact Supplied.accepts back _
    all_goals exact h

theorem Supplied.actSkipStep (h : Supplied none s) (b i n : Nat) : Supplied none (actSkipStep b i n s).1 := by
  unfold Machine.actSkipStep
  split
  · exact h
  · next ref e _ =>
    have skipped (st : EntryStatus) : Supplied none ((s.skipEntry ref e).accepts fun _ => dispositionItems ref e.status st).1 :=
      Supplied.accepts (h.skipEntry ref e) _
    split
    · split
      · exact skipped _
      · exact h
    case h_7 | h_8 => exact h
    all_goals exact skipped _

theorem State.remakeEntry_same (s : State) (ref : EntryRef) : SameSupply s (s.remakeEntry ref) := by
  unfold State.remakeEntry
  exact sameSupply_of_eq rfl rfl

theorem Supplied.actDisposeStep (h : Supplied none s) (b i n d : Nat) : Supplied none (actDisposeStep b i n d s).1 := by
  unfold Machine.actDisposeStep
  split
  · exact h
  · split
    · exact h
    · split
      · exact h
      · split
        · exact Supplied.accepts (h.congr (State.modifyEntry_steady _ _ _).sameSupply) _
        · split
          · exact h
          · split
            · exact h
            · exact Supplied.accepts (h.congr (State.remakeEntry_same _ _)) _

theorem Supplied.actAbandonBoard (h : Supplied none s) (b : Nat) : Supplied none (actAbandonBoard b s).1 := by
  have abandoned (r : Board) : Supplied none (if s.isActive b then s.abandonEntries r else (s.abandonEntries r).removeNext) := by
    split
    · exact h.abandonEntries r
    · exact (h.abandonEntries r).congr (State.removeNext_same _)
  unfold Machine.actAbandonBoard
  split
  case h_4 => exact h
  all_goals
    split
    · exact h
    · exact Supplied.accepts (abandoned _) _

theorem Supplied.actHome (h : Supplied none s) (axes : Nat) : Supplied none (actHome axes s).1 := by
  have homed (lost : List Axis) :
      Supplied none (((((namedAxes axes).foldl State.startHoming s).homeTable axes).homeSpan axes).noticeUnhomed lost) :=
    (((h.congr (sameSupply_foldl State.startHoming_same _ _)).congr (State.homeTable_same _ _)).congr
      (State.homeSpan_same _ _)).congr (State.noticeUnhomed_same _ _)
  unfold Machine.actHome
  split
  · exact h
  · split
    case h_4 => exact h
    all_goals
      split
      · exact h
      · split
        · exact h
        · exact Supplied.accepts (homed _) _

theorem Supplied.enterRunning (h : Supplied none s) : Supplied none s.enterRunning :=
  Supplied.fireAll (Supplied.startMeasurement (((h.congr (s.setLine_steady _ _).sameSupply).congr
    (State.restartKept_same _)).congr (State.restartConveyor_same _)))

theorem Supplied.enterHolding (h : Supplied none s) : Supplied none s.enterHolding :=
  Supplied.fireAll (Supplied.startMeasurement (h.congr (s.setLine_steady _ _).sameSupply))

theorem Supplied.enterRecovering (h : Supplied none s) : Supplied none s.enterRecovering := by
  have lined : Supplied none (s.setLine .recovering (.command .recover)) := h.congr (s.setLine_steady _ _).sameSupply
  unfold State.enterRecovering
  refine Supplied.congr (Supplied.recoverIndex ?_) (State.recoverHead_same _)
  exact lined.congr (sameSupply_of_eq rfl rfl)

end

end Sys2Proof.Machine

/-! PROOFS. Every step keeps the supply laws (R25). -/

namespace Sys2Proof.Machine

section
variable {s : State}

/-- After a reset no code is defined, no station is in service and no pocket is known (R2, R23, R40). -/
theorem supplied_afterReset (cause : ResetCause) (lv : Levels) (drawn : Nat) (pending : List Instr) :
    Supplied none (State.afterReset cause lv drawn pending) := by
  have pocket p : (State.afterReset cause lv drawn pending).pocket p = {} := vget_replicate _ _
  have station k : (State.afterReset cause lv drawn pending).station k = {} := vget_replicate _ _
  have codes : (State.afterReset cause lv drawn pending).stations.codes = [] := rfl
  exact
    { code := by
        simp [CodeLaw, codes, station]
      place := placeLaw_iff.mpr ⟨fun p k named => absurd named (by rw [pocket]; nofun), nofun⟩
      count := fun k => by
        rw [station, eq_comm, State.assignedTo, List.countP_eq_zero]
        intro v hv
        obtain ⟨p, rfl⟩ := mem_toList_iff_vget.mp hv
        simp [show vget (State.afterReset cause lv drawn pending).chain.pockets p = {} from pocket p]
      rests := fun k _ => by rw [station]; exact fun _ => rfl }

theorem supplied_resetWith (s : State) (cause : ResetCause) (lv : Levels) : Supplied none (s.resetWith cause lv) := by
  have fresh := supplied_afterReset cause lv s.drawn s.pending
  unfold State.resetWith
  dsimp only
  split
  · exact fresh.estopArrive.judge
  · exact fresh

theorem State.tick_same (s : State) : SameSupply s s.tick := by
  constructor <;> simp only [State.tick, State.issueSteps, State.draw]

/-- A command that changes nothing a supply law reads and is then accepted. -/
theorem Supplied.acceptsSame {u : State} (h : Supplied none s) (same : SameSupply s u) (items : State → List Byte := fun _ => []) :
    Supplied none (u.accepts items).1 := (h.congr same).accepts items

theorem Supplied.actProgramBegin (h : Supplied none s) (p n m o l) :
    Supplied none (Machine.actProgramBegin p n m o l s).1 := by
  unfold Machine.actProgramBegin
  dsimp only
  split
  · exact h
  split
  · exact h
  split
  · exact h
  split
  · exact h
  split
  · exact h
  · exact h.acceptsSame (State.setStore_same _ _ _)

theorem Supplied.actProgramEnd (h : Supplied none s) : Supplied none (Machine.actProgramEnd s).1 := by
  unfold Machine.actProgramEnd
  dsimp only
  split
  · split
    · dsimp only
      exact Supplied.judge (h.congr (s.setStore_same _ _))
    · exact h.acceptsSame (s.setStore_same _ _) _
  · exact h

theorem Supplied.actProgramClear (h : Supplied none s) : Supplied none (Machine.actProgramClear s).1 := by
  unfold Machine.actProgramClear
  split
  · exact h
  split
  · exact h
  · exact h.acceptsSame (s.setStore_same _ _)

theorem Supplied.actAnnounceBoard (h : Supplied none s) (b p m) :
    Supplied none (Machine.actAnnounceBoard b p m s).1 := by
  unfold Machine.actAnnounceBoard
  dsimp only
  split
  · split
    · exact h
    split
    · exact h
    split
    · exact h
    · split
      · exact h
      · refine Supplied.acceptsSame h ?_ _
        exact sameSupply_of_eq rfl rfl
    · split
      · exact h
      · refine Supplied.acceptsSame h ?_ _
        exact sameSupply_of_eq rfl rfl
  · exact h

theorem Supplied.actSetGeometry (h : Supplied none s) (g) : Supplied none (Machine.actSetGeometry g s).1 := by
  unfold Machine.actSetGeometry
  split
  · exact h
  split
  · exact h
  split
  · exact h
  split
  · exact h
  · refine Supplied.acceptsSame h ?_ _
    exact sameSupply_of_eq rfl rfl

/-- Every command of the host keeps the supply laws. -/
theorem Supplied.act (h : Supplied none s) (i : Instr) : Supplied none (act i s).1 := by
  have judged {u : State} {items : State → List Byte} (same : SameSupply s u) : Supplied none (u.accepts items).1 :=
    (h.congr same).accepts items
  cases i
  case loadStation t k c l => exact h.actLoadStation k c l
  case lockStation t k => exact h.actLockStation k
  case unlockStation t k => exact h.actUnlockStation k
  case resetStation t k => exact h.actResetStation k
  case defineCode t f => exact h.actDefineCode f
  case removeCode t c => exact h.actRemoveCode c
  case skipStep t b i n => exact h.actSkipStep b i n
  case disposeStep t b i n d => exact h.actDisposeStep b i n d
  case abandonBoard t b => exact h.actAbandonBoard b
  case home t a => exact h.actHome a
  case setStationGroup t g e b m c =>
    dsimp only [Machine.act, actSetStationGroup]
    repeat' split
    all_goals first | exact h | exact h.congr ⟨rfl, rfl, rfl, rfl, rfl, rfl⟩
  case programBegin t p n m o l => exact h.actProgramBegin p n m o l
  case programSteps t n l =>
    dsimp only [Machine.act, actProgramSteps]
    repeat' split
    all_goals first | exact h | exact h.congr (sameSupply_of_eq rfl rfl)
  case programEnd t => exact h.actProgramEnd
  case programClear t => exact h.actProgramClear
  case announceBoard t b p m => exact h.actAnnounceBoard b p m
  case setFireDwell t d =>
    dsimp only [Machine.act, actSetFireDwell]
    split
    · exact h.congr ⟨rfl, rfl, rfl, rfl, rfl, rfl⟩
    · exact h
  case setFailThreshold t n =>
    dsimp only [Machine.act, actSetFailThreshold]
    split
    · exact h.congr (sameSupply_of_eq rfl rfl)
    · exact h
  case setGeometry t g => exact h.actSetGeometry g
  case setDebounce t a b c =>
    dsimp only [Machine.act, actSetDebounce]
    split
    · refine Supplied.accepts (takeArrivals_keeps (fun s hs => hs.congr s.draw_same) (fun _ i hs => hs.slowArrival i) _ _ ?_) _
      exact h.congr (sameSupply_of_eq rfl rfl)
    · exact h
  case setAlarmClass t n c =>
    dsimp only [Machine.act, actSetAlarmClass]
    repeat' split
    all_goals first | exact h | exact h.congr (sameSupply_of_eq rfl rfl)
  case ackAlarms t n =>
    dsimp only [Machine.act, actAckAlarms]
    split
    · exact h
    · exact h.congr (sameSupply_foldl State.ackSource_same _ _)
  case readPocket t p =>
    dsimp only [Machine.act, actReadPocket]
    split <;> exact h
  case readStation t k =>
    dsimp only [Machine.act, actReadStation]
    split <;> exact h
  case readCode t c =>
    dsimp only [Machine.act, actReadCode]
    repeat' split
    · exact h
    · exact h
    · exact h.congr s.draw_same
    · exact h
  case readBoard t n i =>
    dsimp only [Machine.act, actReadBoard]
    repeat' split
    all_goals exact h
  case setTiming t x => exact h.congr (sameSupply_of_eq rfl rfl)
  case clearCapture t => exact h.congr (sameSupply_of_eq rfl rfl)
  case reset t => exact h.congr (sameSupply_of_eq rfl rfl)
  case readHead t => exact h.congr (sameSupply_of_eq rfl rfl)
  case run t =>
    dsimp only [Machine.act, actRun]
    split
    case h_3 => exact h
    all_goals
      split
      · exact h
      · exact h.enterRunning.accepts _
  case hold t =>
    dsimp only [Machine.act, actHold]
    split
    · exact h.enterHolding.accepts _
    · exact h
  case stop t =>
    dsimp only [Machine.act, actStop]
    split
    · exact h
    · exact judged (s.enterStopped_steady _).sameSupply
  case recover t =>
    dsimp only [Machine.act, actRecover]
    split
    · split
      · exact h
      · exact h.enterRecovering.accepts _
    · exact h
  all_goals exact h

/-- The supply laws hold through a walk over every row. -/
theorem supplied_walked : Walked (Supplied none) where
  link _ _ h := h.congr (sameSupply_of_eq rfl rfl)
  queue _ _ h := h.congr (sameSupply_of_eq rfl rfl)
  act i _ h := h.act i
  row i _ _ m h e := h.row i m e
  reset := supplied_resetWith
  tick s h := (h.congr s.tick_same).judge

/-- Every step keeps the code table, the places and the pending-fire counts together (R25). -/
theorem supplyLaws_kept : KeptByEveryStep fun s => CodeLaw s ∧ PlaceLaw s ∧ PendingLaw s := fun s t h e =>
  supplied_iff.mp (supplied_walked.kept s t (supplied_iff.mpr h) e)

end

end Sys2Proof.Machine

/-! PROOFS. The two parts of the state that the laws of R3, R70 and section 8 read: `State.core`, the chain, the boards, the
measurement, the head and the transport, and `State.control`, the line, the store, the axes and the head's state. Two states with
one core satisfy the same laws of the entries, and two with one control the same laws of the line; most operations leave both. -/

namespace Sys2Proof.Machine

/-- What the laws read of an axis state: unhomed, homing without its switch edge, or homed. -/
def AxisState.bare : AxisState → AxisState
  | .unhomed => .unhomed
  | .homing .clear | .homing .search => .homing .search
  | .homing .park | .idle | .moving | .settling | .inPosition => .idle

/-- What the laws read of an axis. -/
def AxisRec.bare (a : AxisRec) : AxisRec := { homed := a.homed, drive := a.drive, state := a.state.bare }

/-- The parts of the state that the laws of the entries and their places read; every other part stands as after reset. -/
def State.core (s : State) : State :=
  { State.reset with
    chain := { Chain.afterReset with c := s.chain.c, pockets := s.chain.pockets, index := s.chain.index }
    boards := s.boards
    verifier := { Verifier.afterReset with flight := s.verifier.flight }
    head := { Head.afterReset true with
      state := s.head.state, held := s.head.held, unowned := s.head.unowned, clinch := s.head.clinch }
    conveyor := { Conveyor.afterReset with
      state := s.conveyor.state, board := s.conveyor.board, unloadRequest := s.conveyor.unloadRequest } }

/-- The parts of the state that the laws of the line read; every other part stands as after reset. -/
def State.control (s : State) : State :=
  { State.reset with
    programs := { store := s.programs.store, outcome := .none }
    alarms := { Alarms.afterReset .powerOn true with line := s.alarms.line }
    table := { Table.afterReset with x := s.table.x.bare, y := s.table.y.bare, r := s.table.r.bare }
    head := { Head.afterReset true with state := s.head.state, span := s.head.span.bare } }

/-- Neither part has changed. -/
structure Unread (s t : State) : Prop where
  core : t.core = s.core
  control : t.control = s.control

section
variable {s t u : State}

theorem Unread.refl (s : State) : Unread s s := ⟨rfl, rfl⟩

theorem Unread.after (k : Unread t u) (h : Unread s t) : Unread s u :=
  ⟨k.core.trans h.core, k.control.trans h.control⟩

end

/-! ## Operations that neither law reads -/

section
variable (s : State)

@[simp] theorem State.emit_core (k : Byte) (p : List Byte) : (s.emit k p).core = s.core := by
  unfold State.emit; split <;> rfl

@[simp] theorem State.emit_control (k : Byte) (p : List Byte) : (s.emit k p).control = s.control := by
  unfold State.emit; split <;> rfl

@[simp] theorem State.setWatch_core (w : WatchId) (v : Watch) : (s.setWatch w v).core = s.core := rfl

@[simp] theorem State.setWatch_control (w : WatchId) (v : Watch) : (s.setWatch w v).control = s.control := rfl

@[simp] theorem State.clearExpired_core (w : WatchId) : (s.clearExpired w).core = s.core := by
  unfold State.clearExpired State.reportCleared; split <;> simp

@[simp] theorem State.clearExpired_control (w : WatchId) : (s.clearExpired w).control = s.control := by
  unfold State.clearExpired State.reportCleared; split <;> simp

@[simp] theorem State.startWatch_core (w : WatchId) (n : Nat) : (s.startWatch w n).core = s.core := by
  simp [State.startWatch]

@[simp] theorem State.startWatch_control (w : WatchId) (n : Nat) : (s.startWatch w n).control = s.control := by
  simp [State.startWatch]

@[simp] theorem State.stopWatch_core (w : WatchId) : (s.stopWatch w).core = s.core := by simp [State.stopWatch]

@[simp] theorem State.stopWatch_control (w : WatchId) : (s.stopWatch w).control = s.control := by
  simp [State.stopWatch]

@[simp] theorem State.haltWatch_core (w : WatchId) : (s.haltWatch w).core = s.core := by
  unfold State.haltWatch; split <;> simp

@[simp] theorem State.haltWatch_control (w : WatchId) : (s.haltWatch w).control = s.control := by
  unfold State.haltWatch; split <;> simp

@[simp] theorem State.expire_core (w : WatchId) : (s.expire w).core = s.core := rfl

@[simp] theorem State.expire_control (w : WatchId) : (s.expire w).control = s.control := rfl

@[simp] theorem State.draw_core : s.draw.core = s.core := rfl

@[simp] theorem State.draw_control : s.draw.control = s.control := rfl

@[simp] theorem State.setStation_core (k : Fin 80) (r : Station) : (s.setStation k r).core = s.core := rfl

@[simp] theorem State.setStation_control (k : Fin 80) (r : Station) : (s.setStation k r).control = s.control := rfl

@[simp] theorem State.setFireUnit_core (k : Fin 80) (f : FireUnit) : (s.setFireUnit k f).core = s.core := rfl

@[simp] theorem State.setFireUnit_control (k : Fin 80) (f : FireUnit) : (s.setFireUnit k f).control = s.control := rfl

@[simp] theorem State.setSource_core (src : Source) (r : SourceRec) : (s.setSource src r).core = s.core := rfl

@[simp] theorem State.setSource_control (src : Source) (r : SourceRec) : (s.setSource src r).control = s.control := rfl

@[simp] theorem State.recordRaise_core (src : Source) (c : AlarmClass) (x : Context) :
    (s.recordRaise src c x).core = s.core := by
  unfold State.recordRaise
  rw [State.emit_core]
  rfl

@[simp] theorem State.recordRaise_control (src : Source) (c : AlarmClass) (x : Context) :
    (s.recordRaise src c x).control = s.control := by
  unfold State.recordRaise
  rw [State.emit_control]
  rfl

@[simp] theorem State.setAxis_core (a : Axis) (v : AxisRec) : (s.setAxis a v).core = s.core := by cases a <;> rfl

@[simp] theorem State.setLine_core (l : LineState) (c : LineCause) : (s.setLine l c).core = s.core := by
  unfold State.setLine
  rw [State.emit_core]
  rfl

@[simp] theorem State.judgeReadiness_core (f : ReadyField) : (s.judgeReadiness f).core = s.core := by
  unfold State.judgeReadiness; split <;> simp

@[simp] theorem State.noticeHomed_core (a : Axis) (b : Bool) : (s.noticeHomed a b).core = s.core := by
  unfold State.noticeHomed
  split
  · rfl
  · exact State.judgeReadiness_core _ _

@[simp] theorem State.noticeProgram_core (b : Bool) : (s.noticeProgram b).core = s.core := by
  unfold State.noticeProgram
  split
  · rfl
  · exact State.judgeReadiness_core _ _

@[simp] theorem State.noticeHalted_core (b : Bool) : (s.noticeHalted b).core = s.core := by
  unfold State.noticeHalted
  split
  · rfl
  · exact State.judgeReadiness_core _ _

@[simp] theorem State.abortHoming_core (a : Axis) : (s.abortHoming a).core = s.core := by
  unfold State.abortHoming; split <;> simp

@[simp] theorem State.stopTable_core : s.stopTable.core = s.core := by
  have aborted : (((s.abortHoming .x).abortHoming .y).abortHoming .r).core = s.core := by simp
  unfold State.stopTable
  dsimp only
  generalize (((s.abortHoming .x).abortHoming .y).abortHoming .r) = u at aborted ⊢
  have halted : (if (s.table.x.isHoming || s.table.y.isHoming || s.table.r.isHoming) = true then u.haltWatch .table
      else u).core = s.core := by split <;> simp [aborted]
  generalize (if (s.table.x.isHoming || s.table.y.isHoming || s.table.r.isHoming) = true then u.haltWatch .table
      else u) = v at halted ⊢
  split
  · rw [State.haltWatch_core]; exact halted
  · exact halted

@[simp] theorem State.stopSpan_core : s.stopSpan.core = s.core := by
  have aborted : (s.abortHoming .span).core = s.core := by simp
  unfold State.stopSpan
  dsimp only
  rw [State.haltWatch_core]
  split
  · exact aborted
  · exact aborted

end

end Sys2Proof.Machine

/-! PROOFS. The laws of the line: its record mirrors the store, the axes and the head (R119, R187), and it allows the head no
stroke where no stroke may stand (R151, R152, R154, R189). -/

namespace Sys2Proof.Machine

/-- Readiness agrees with the line state (R187). -/
def Line.agrees (l : Line) : Prop :=
  match l.state with
  | .unready => l.ready = false
  | .ready | .running | .holding | .held => l.ready = true
  | .stopped | .recovering => True

/-- The head states that a line record allows (R151, R152, R154, R189). -/
def Line.allows (l : Line) (h : HeadState) : Prop :=
  match l.state with
  | .unready | .ready | .held | .stopped => h = .top ∨ h = .wait ∨ h.isHalted = true
  | .recovering => ∀ r, l.recovery = some r → r.head = true → h = .top ∨ h = .wait
  | .running | .holding => True

/-- An axis is homed exactly in the states that say so, and as the line has been told (R119, R187). -/
def AxisRec.mirrored (a : AxisRec) (told : Bool) : Prop :=
  told = a.homed ∧ a.homed = a.state.homed ∧ (a.drive = false → a.state = .unhomed)

/-- The laws of the line, while the line has still to be told of the listed axes that they have lost their homing, and, with
`halting`, while the head has still to halt in a line that is already STOPPED. -/
structure Governed (lost : List Axis) (halting : Bool) (s : State) : Prop where
  program : s.alarms.line.programLoaded = s.programs.store.isLoaded
  halted : s.alarms.line.headHalted = s.head.state.isHalted
  axis : ∀ a, (s.axis a).mirrored (if a ∈ lost then false else s.alarms.line.homed a)
  agrees : s.alarms.line.agrees
  allows : halting = false → s.alarms.line.allows s.head.state

theorem governed_iff {s : State} : Governed [] false s ↔ ReadinessLaw s ∧ s.alarms.line.allows s.head.state :=
  ⟨fun h => ⟨⟨h.program, h.halted, fun a => by simpa [AxisRec.mirrored] using h.axis a, h.agrees⟩, h.allows rfl⟩,
    fun ⟨⟨program, halted, axis, agrees⟩, allows⟩ =>
      ⟨program, halted, fun a => by simpa [AxisRec.mirrored] using axis a, agrees, fun _ => allows⟩⟩

/-! ## Congruence -/

theorem AxisState.bare_homed (a : AxisState) : a.bare.homed = a.homed := by
  cases a with
  | homing stage => cases stage <;> rfl
  | _ => rfl

theorem AxisState.bare_unhomed {a : AxisState} : a.bare = .unhomed ↔ a = .unhomed := by
  cases a with
  | homing stage => cases stage <;> simp [AxisState.bare]
  | _ => simp [AxisState.bare]

theorem AxisRec.mirrored_bare {a : AxisRec} {b : Bool} : a.bare.mirrored b ↔ a.mirrored b := by
  simp only [AxisRec.mirrored, AxisRec.bare, AxisState.bare_homed, AxisState.bare_unhomed]

theorem AxisRec.mirrored_congr {a b : AxisRec} (e : b.bare = a.bare) {told : Bool} (h : a.mirrored told) : b.mirrored told :=
  AxisRec.mirrored_bare.mp (e ▸ AxisRec.mirrored_bare.mpr h)

/-- A homed axis stands in a state that says so. -/
theorem AxisRec.mirrored.bare_state {a : AxisRec} {told : Bool} (h : a.mirrored told) (homed : a.homed = true) :
    a.state.bare = .idle := by
  have e := h.2.1.symm.trans homed
  revert e
  cases a.state with
  | homing stage => cases stage <;> simp [AxisState.homed, AxisState.bare]
  | _ => simp [AxisState.homed, AxisState.bare]

section
variable {s t : State} {lost : List Axis} {halting after : Bool}

theorem State.control_line (e : t.control = s.control) : t.alarms.line = s.alarms.line := congrArg (·.alarms.line) e

theorem State.control_store (e : t.control = s.control) : t.programs.store = s.programs.store :=
  congrArg (·.programs.store) e

theorem State.control_headState (e : t.control = s.control) : t.head.state = s.head.state := congrArg (·.head.state) e

theorem State.control_axis (s : State) (a : Axis) : s.control.axis a = (s.axis a).bare := by cases a <;> rfl

theorem Governed.congr (h : Governed lost halting s) (e : t.control = s.control) : Governed lost halting t where
  program := by rw [State.control_line e, State.control_store e]; exact h.program
  halted := by rw [State.control_line e, State.control_headState e]; exact h.halted
  axis a := by
    rw [State.control_line e]
    exact AxisRec.mirrored_congr (by rw [← t.control_axis, ← s.control_axis, e]) (h.axis a)
  agrees := by rw [State.control_line e]; exact h.agrees
  allows := by rw [State.control_line e, State.control_headState e]; exact h.allows

/-! ## What the laws say of the line -/

theorem State.working_congr (e : t.alarms.line.state = s.alarms.line.state) : t.working = s.working := by
  unfold State.working State.line
  rw [e]

theorem Line.homed_of_ready {l : Line} (h : l.ready = true) (a : Axis) : l.homed a = true := by
  simp only [Line.ready, Bool.and_eq_true] at h
  obtain ⟨⟨⟨⟨⟨-, x⟩, y⟩, r⟩, span⟩, -⟩ := h
  cases a
  · exact x
  · exact y
  · exact r
  · exact span

theorem Governed.ready_of_working (h : Governed lost halting s) (w : s.working = true) : s.alarms.line.ready = true := by
  have agrees := h.agrees
  unfold Line.agrees at agrees
  rcases State.working_iff.mp w with e | e <;> rw [State.line] at e <;> rw [e] at agrees <;> exact agrees

/-- In RUNNING and HOLDING the head is not HALTED (R187, R191). -/
theorem Governed.not_halted (h : Governed lost halting s) (w : s.working = true) : s.head.state.isHalted = false := by
  have ready := h.ready_of_working w
  simp only [Line.ready, Bool.and_eq_true, Bool.not_eq_true'] at ready
  rw [← h.halted]
  exact ready.2

theorem Line.allows_top (l : Line) : l.allows .top := by
  unfold Line.allows
  split <;> simp

theorem Line.allows_of_working {l : Line} (h : l.state = .running ∨ l.state = .holding) (st : HeadState) : l.allows st := by
  unfold Line.allows
  rcases h with e | e <;> rw [e] <;> trivial

theorem Line.allows_of_recovering {l : Line} (h : l.state = .recovering) (undone : ∀ r, l.recovery = some r → r.head = false)
    (st : HeadState) : l.allows st := by
  unfold Line.allows
  rw [h]
  intro r e done
  rw [undone r e] at done
  cases done

theorem Line.allows_halted {l : Line} (h : l.state ≠ .recovering) {st : HeadState} (halted : st.isHalted = true) :
    l.allows st := by
  unfold Line.allows
  split
  · exact .inr (.inr halted)
  · exact .inr (.inr halted)
  · exact .inr (.inr halted)
  · exact .inr (.inr halted)
  · next e => exact absurd e h
  · trivial
  · trivial

/-- Neither at rest nor HALTED. -/
def HeadState.busy : HeadState → Bool
  | .top | .wait | .halted .. => false
  | _ => true

/-- A line that allows the head one stroke allows it every state. -/
theorem Line.allows_of_busy {l : Line} {st : HeadState} (h : l.allows st) (busy : st.busy = true) (new : HeadState) :
    l.allows new := by
  unfold Line.allows at h ⊢
  split at h
  case h_5 => intro r e done; rcases h r e done with rfl | rfl <;> cases busy
  case h_6 => trivial
  case h_7 => trivial
  all_goals
    rcases h with rfl | rfl | halted
    · cases busy
    · cases busy
    · cases st <;> simp [HeadState.isHalted, HeadState.busy] at halted busy

/-! ## A change of the head (R139) -/

theorem Governed.setHead (h : Governed lost halting s) {hd : Head} (span : hd.span.bare = s.head.span.bare)
    (halted : hd.state.isHalted = s.head.state.isHalted) (allows : after = false → s.alarms.line.allows hd.state) :
    Governed lost after { s with head := hd } where
  program := h.program
  halted := h.halted.trans halted.symm
  axis a := by
    cases a with
    | span => exact AxisRec.mirrored_congr span (h.axis .span)
    | x => exact h.axis .x
    | y => exact h.axis .y
    | r => exact h.axis .r
  agrees := h.agrees
  allows := allows

/-! ## A change of the line state and the notices (R187, R193) -/

theorem Governed.withLine (h : Governed lost halting s) {l : Line} (program : l.programLoaded = s.alarms.line.programLoaded)
    (halted : l.headHalted = s.alarms.line.headHalted) (homed : ∀ a, l.homed a = s.alarms.line.homed a)
    (agrees : l.agrees) (allows : after = false → l.allows s.head.state) :
    Governed lost after { s with alarms := { s.alarms with line := l } } where
  program := program.trans h.program
  halted := halted.trans h.halted
  axis a := by
    have same : ({ s with alarms := { s.alarms with line := l } } : State).axis a = s.axis a := by cases a <;> rfl
    rw [same]
    dsimp only
    rw [homed]
    exact h.axis a
  agrees := agrees
  allows := allows

/-- The line record as `State.setLine` leaves it. -/
def Line.entered (l : Line) (new : LineState) : Line := { l with state := new, recovery := none }

theorem State.setLine_control (s : State) (new : LineState) (c : LineCause) : (s.setLine new c).control =
    ({ s with alarms := { s.alarms with line := s.alarms.line.entered new } } : State).control := by
  unfold State.setLine
  rw [State.emit_control]
  rfl

theorem Line.entered_homed (l : Line) (new : LineState) (a : Axis) : (l.entered new).homed a = l.homed a := by
  cases a <;> rfl

theorem Governed.setLine (h : Governed lost halting s) {new : LineState} {c : LineCause}
    (agrees : (s.alarms.line.entered new).agrees) (allows : after = false → (s.alarms.line.entered new).allows s.head.state) :
    Governed lost after (s.setLine new c) :=
  (h.withLine (l := s.alarms.line.entered new) rfl rfl (Line.entered_homed _ _) agrees allows).congr
    (s.setLine_control new c)

theorem Line.allows_entered {l : Line} {st : HeadState} (h : l.allows st) {new : LineState}
    (old : l.state = .unready ∨ l.state = .ready ∨ l.state = .held)
    (dest : new = .unready ∨ new = .ready) : (l.entered new).allows st := by
  have same : st = .top ∨ st = .wait ∨ st.isHalted = true := by
    unfold Line.allows at h
    rcases old with e | e | e <;> rw [e] at h <;> exact h
  rcases dest with rfl | rfl <;> exact same

/-- The judgement of readiness restores its agreement with the line state. -/
theorem Governed.of_judgeReadiness (program : s.alarms.line.programLoaded = s.programs.store.isLoaded)
    (halted : s.alarms.line.headHalted = s.head.state.isHalted)
    (axis : ∀ a, (s.axis a).mirrored (if a ∈ lost then false else s.alarms.line.homed a))
    (idle : s.working = false) (allows : halting = false → s.alarms.line.allows s.head.state) (f : ReadyField) :
    Governed lost halting (s.judgeReadiness f) := by
  have change {new : LineState} {c : LineCause} (agrees : (s.alarms.line.entered new).agrees)
      (old : s.line = .unready ∨ s.line = .ready ∨ s.line = .held) (dest : new = .unready ∨ new = .ready) :
      Governed lost halting (s.setLine new c) := by
    refine Governed.congr (s := { s with alarms := { s.alarms with line := s.alarms.line.entered new } }) ?_
      (s.setLine_control new c)
    refine ⟨program, halted, fun a => ?_, agrees, fun strict => Line.allows_entered (allows strict) old dest⟩
    have same : ({ s with alarms := { s.alarms with line := s.alarms.line.entered new } } : State).axis a = s.axis a := by
      cases a <;> rfl
    rw [same]
    dsimp only
    rw [Line.entered_homed]
    exact axis a
  have ready_entered new : (s.alarms.line.entered new).ready = s.alarms.line.ready := rfl
  unfold State.judgeReadiness
  split
  · next e r => exact change r (.inl e) (.inr rfl)
  · next e r => exact change r (.inr (.inl e)) (.inl rfl)
  · next e r => exact change r (.inr (.inr e)) (.inl rfl)
  · next up down held =>
    refine ⟨program, halted, axis, ?_, allows⟩
    unfold Line.agrees
    have work := mt State.working_iff.mpr (by rw [idle]; decide)
    rw [State.line] at up down held work
    cases e : s.alarms.line.state <;> cases r : s.alarms.line.ready <;> simp_all

theorem Line.homed_setHomed (l : Line) (a b : Axis) (v : Bool) :
    (l.setHomed a v).homed b = if b = a then v else l.homed b := by
  cases a <;> cases b <;> rfl

theorem Line.setHomed_rest (l : Line) (a : Axis) (v : Bool) :
    (l.setHomed a v).state = l.state ∧ (l.setHomed a v).recovery = l.recovery
      ∧ (l.setHomed a v).programLoaded = l.programLoaded ∧ (l.setHomed a v).headHalted = l.headHalted := by
  cases a <;> exact ⟨rfl, rfl, rfl, rfl⟩

theorem Line.allows_congr {l m : Line} (state : m.state = l.state) (recovery : m.recovery = l.recovery) {st : HeadState}
    (h : l.allows st) : m.allows st := by
  unfold Line.allows at h ⊢
  rw [state, recovery]
  exact h

/-- The notice that an axis has lost its homing, which it has. -/
theorem Governed.noticeLost (h : Governed lost halting s) (idle : s.working = false) {a : Axis} (gone : (s.axis a).mirrored false) :
    Governed (lost.filter (· ≠ a)) halting (s.noticeHomed a false) := by
  unfold State.noticeHomed
  split
  · next told =>
    refine ⟨h.program, h.halted, fun b => ?_, h.agrees, h.allows⟩
    by_cases e : b = a
    · subst e; simp [told, gone]
    · simpa [e] using h.axis b
  · obtain ⟨state, recovery, program, halted⟩ := s.alarms.line.setHomed_rest a false
    refine Governed.of_judgeReadiness (program.trans h.program) (halted.trans h.halted) (fun b => ?_) ?_
      (fun strict => Line.allows_congr state recovery (h.allows strict)) _
    · have same : ({ s with alarms := { s.alarms with line := s.alarms.line.setHomed a false } } : State).axis b = s.axis b := by
        cases b <;> rfl
      rw [same]
      dsimp only
      rw [Line.homed_setHomed]
      by_cases e : b = a
      · subst e; simp [gone]
      · simpa [e] using h.axis b
    · exact (State.working_congr state).trans idle

/-- An axis that has lost its homing, of which the line has still to be told. -/
theorem Governed.loseAxis (h : Governed lost halting s) {a : Axis} {v : AxisRec} (gone : v.mirrored false) :
    Governed (a :: lost) halting (s.setAxis a v) where
  program := by rw [State.setAxis_alarms, State.setAxis_programs]; exact h.program
  halted := by
    rw [State.setAxis_alarms, h.halted]
    cases a <;> rfl
  axis b := by
    rw [State.setAxis_alarms]
    by_cases e : b = a
    · subst e; simpa using gone
    · rw [State.axis_setAxis_other _ _ _ _ e]
      simpa [e] using h.axis b
  agrees := by rw [State.setAxis_alarms]; exact h.agrees
  allows := by
    rw [State.setAxis_alarms, show (s.setAxis a v).head.state = s.head.state by cases a <;> rfl]
    exact h.allows

/-- An axis that passes its switch edge, with the notice that it is homed (R122, R141). -/
theorem Governed.gainAxis (h : Governed [] halting s) {a : Axis} {v : AxisRec} (homed : v.mirrored true) :
    Governed [] halting ((s.setAxis a v).noticeHomed a true) := by
  have state : (s.setAxis a v).head.state = s.head.state := by cases a <;> rfl
  have others b (e : b ≠ a) : ((s.setAxis a v).axis b).mirrored (s.alarms.line.homed b) := by
    rw [State.axis_setAxis_other _ _ _ _ e]
    simpa using h.axis b
  unfold State.noticeHomed
  rw [State.setAxis_alarms]
  split
  · next told =>
    refine ⟨by rw [State.setAxis_alarms, State.setAxis_programs]; exact h.program,
      by rw [State.setAxis_alarms, state]; exact h.halted, fun b => ?_,
      by rw [State.setAxis_alarms]; exact h.agrees, by rw [State.setAxis_alarms, state]; exact h.allows⟩
    rw [State.setAxis_alarms]
    by_cases e : b = a
    · subst e; simpa [told] using homed
    · simpa using others b e
  · next untold =>
    obtain ⟨lineState, recovery, program, halted⟩ := s.alarms.line.setHomed_rest a true
    refine Governed.of_judgeReadiness (program.trans (h.program.trans (by rw [State.setAxis_programs])))
      (halted.trans (h.halted.trans (by rw [state]))) (fun b => ?_) ?_
      (fun strict => Line.allows_congr lineState recovery (by rw [state]; exact h.allows strict)) _
    · have same : ({ s.setAxis a v with alarms := { s.alarms with line := s.alarms.line.setHomed a true } } : State).axis b
          = (s.setAxis a v).axis b := by cases b <;> rfl
      rw [same]
      dsimp only
      rw [Line.homed_setHomed]
      by_cases e : b = a
      · subst e; simpa using homed
      · simpa [e] using others b e
    · rw [Bool.eq_false_iff]
      intro work
      have ready := h.ready_of_working (s := s) ((State.working_congr lineState).symm.trans work)
      exact untold (Line.homed_of_ready ready a)

/-- A head that halts or leaves HALTED, with the notice of it (R138, R187). -/
theorem Governed.turnHead (h : Governed lost halting s) {hd : Head} (span : hd.span.bare = s.head.span.bare) {b : Bool}
    (halted : hd.state.isHalted = b) (idle : s.working = false) (allows : after = false → s.alarms.line.allows hd.state)
    (e : t.control = ({ s with head := hd } : State).control) : Governed lost after (t.noticeHalted b) := by
  have line : t.alarms.line = s.alarms.line := (State.control_line e :)
  have state : t.head.state = hd.state := (State.control_headState e :)
  have store : t.programs.store = s.programs.store := (State.control_store e :)
  have axis a : (t.axis a).mirrored (if a ∈ lost then false else s.alarms.line.homed a) := by
    refine AxisRec.mirrored_congr (a := s.axis a) ?_ (h.axis a)
    rw [← t.control_axis, e, State.control_axis]
    cases a with
    | span => exact span
    | x => rfl
    | y => rfl
    | r => rfl
  unfold State.noticeHalted
  split
  · next told =>
    exact ⟨by rw [line, store]; exact h.program, by rw [told, state, halted], fun a => by rw [line]; exact axis a,
      by rw [line]; exact h.agrees, by rw [line, state]; exact allows⟩
  · refine Governed.of_judgeReadiness (by simp only [line, store]; exact h.program) (by simp only [state, halted])
      (fun a => ?_) ?_ (fun strict => by rw [state, line]; exact Line.allows_congr rfl rfl (allows strict)) _
    · rw [line]
      exact axis a
    · exact (State.working_congr (by rw [line])).trans idle

end

end Sys2Proof.Machine

/-! PROOFS. The entry into STOPPED and the raises keep the laws of the line (R180, R190, R191). -/

namespace Sys2Proof.Machine

section
variable {s t : State} {lost : List Axis} {halting : Bool}

/-! ## Operations that leave the control -/

theorem State.setAxis_control {a : Axis} {v : AxisRec} (e : v.bare = (s.axis a).bare) :
    (s.setAxis a v).control = s.control := by
  cases a <;> simp only [State.axis] at e <;> simp only [State.setAxis, State.control, e]

theorem State.withTable_control {tb : Table} (x : tb.x.bare = s.table.x.bare) (y : tb.y.bare = s.table.y.bare)
    (r : tb.r.bare = s.table.r.bare) : ({ s with table := tb } : State).control = s.control := by
  simp only [State.control, x, y, r]

theorem State.withHead_control {hd : Head} (state : hd.state = s.head.state) (span : hd.span.bare = s.head.span.bare) :
    ({ s with head := hd } : State).control = s.control := by
  simp only [State.control, state, span]

@[simp] theorem State.modifyBoard_control (s : State) (id : Nat) (f : Board → Board) :
    (s.modifyBoard id f).control = s.control := rfl

@[simp] theorem State.modifyEntry_control (s : State) (ref : EntryRef) (f : Entry → Entry) :
    (s.modifyEntry ref f).control = s.control := rfl

@[simp] theorem State.setPocket_control (s : State) (p : Fin 128) (r : Pocket) : (s.setPocket p r).control = s.control := rfl

@[simp] theorem State.noticeOutcome_control (s : State) (ref : EntryRef) (o : HeadOutcome) :
    (s.noticeOutcome ref o).control = s.control := by
  unfold State.noticeOutcome
  split
  · rfl
  · split <;> rfl

@[simp] theorem State.failHeld_control (s : State) (c : EntryCause) (m : Bool) : (s.failHeld c m).control = s.control := by
  unfold State.failHeld
  split
  · rfl
  · exact (State.withHead_control rfl rfl).trans (s.noticeOutcome_control _ _)

@[simp] theorem State.insertHeld_control (s : State) : s.insertHeld.control = s.control := by
  unfold State.insertHeld
  split
  · rfl
  · exact (State.withHead_control rfl rfl).trans (s.noticeOutcome_control _ _)

@[simp] theorem State.unclinchHeld_control (s : State) : s.unclinchHeld.control = s.control := by
  unfold State.unclinchHeld
  split
  · rfl
  · exact (State.withHead_control rfl rfl).trans (s.noticeOutcome_control _ _)

@[simp] theorem State.giveUpHeld_control (s : State) : s.giveUpHeld.control = s.control := by
  unfold State.giveUpHeld
  split
  · exact s.failHeld_control _ _
  · exact s.failHeld_control _ _
  · rfl

@[simp] theorem State.abandonMeasurement_control (s : State) : s.abandonMeasurement.control = s.control := by
  unfold State.abandonMeasurement
  split <;> rfl

@[simp] theorem State.haltConveyor_control (s : State) : s.haltConveyor.control = s.control := by
  unfold State.haltConveyor
  split
  · exact State.haltWatch_control _ _
  · exact State.haltWatch_control _ _
  · rfl

theorem AxisRec.stopMove_bare (a : AxisRec) : a.stopMove.bare = a.bare := by
  unfold AxisRec.stopMove
  split
  · next e => simp only [AxisRec.bare, e, AxisState.bare]
  · rfl

theorem State.lineEffect_warn (s : State) (src : Source) : s.lineEffect src .warn = s := by
  unfold State.lineEffect
  rw [if_neg (by simp), if_neg (by simp)]

@[simp] theorem State.raise_warn_core (s : State) (src : Source) (x : Context) : (s.raise src .warn x).core = s.core := by
  simp only [State.raise, State.lineEffect_warn, State.recordRaise_core]

@[simp] theorem State.raise_warn_control (s : State) (src : Source) (x : Context) :
    (s.raise src .warn x).control = s.control := by
  simp only [State.raise, State.lineEffect_warn, State.recordRaise_control]

/-! ## The entry into STOPPED (R190) -/

theorem State.line_of_control (e : t.control = s.control) : t.line = s.line := by
  rw [State.line, State.control_line e, State.line]

theorem State.working_of_stopped (h : s.line = .stopped) : s.working = false := by
  simp only [State.working, h]; rfl

theorem State.judgeReadiness_line (h : s.line = .stopped ∨ s.line = .recovering) (f : ReadyField) :
    s.judgeReadiness f = s := by
  unfold State.judgeReadiness
  rcases h with e | e <;> rw [e]

theorem State.noticeHomed_line (h : s.line = .stopped) (a : Axis) (b : Bool) : (s.noticeHomed a b).line = .stopped := by
  have state : ({ s with alarms := { s.alarms with line := s.alarms.line.setHomed a b } } : State).line = .stopped :=
    (s.alarms.line.setHomed_rest a b).1.trans h
  unfold State.noticeHomed
  split
  · exact h
  · rw [State.judgeReadiness_line (.inl state)]
    exact state

theorem State.noticeHalted_line (h : s.line = .stopped) (b : Bool) : (s.noticeHalted b).line = .stopped := by
  have state : ({ s with alarms := { s.alarms with line := { s.alarms.line with headHalted := b } } } : State).line
      = .stopped := h
  unfold State.noticeHalted
  split
  · exact h
  · rw [State.judgeReadiness_line (.inl state)]
    exact state

/-- The laws of the line in STOPPED; with `halting` the head has still to halt. -/
def Stopping (halting : Bool) (s : State) : Prop := Governed [] halting s ∧ s.line = .stopped

theorem Stopping.congr (h : Stopping halting s) (e : t.control = s.control) : Stopping halting t :=
  ⟨h.1.congr e, (State.line_of_control e).trans h.2⟩

theorem AxisRec.abortHoming_mirrored (a : AxisRec) : a.abortHoming.mirrored false := ⟨rfl, rfl, fun _ => rfl⟩

theorem AxisRec.mirrored_of_control (e : t.control = s.control) {a : Axis} {told : Bool}
    (h : (s.axis a).mirrored told) : (t.axis a).mirrored told :=
  AxisRec.mirrored_congr (by rw [← t.control_axis, ← s.control_axis, e]) h

/-- An axis that loses its homing in STOPPED, with the notice of it. -/
theorem Stopping.loseAxis (h : Stopping halting s) {a : Axis} {v : AxisRec} (gone : v.mirrored false)
    (e : t.control = (s.setAxis a v).control) : Stopping halting (t.noticeHomed a false) := by
  have line : t.line = .stopped := by rw [State.line_of_control e, State.line, State.setAxis_alarms]; exact h.2
  have lost := ((h.1.loseAxis gone).congr e).noticeLost (State.working_of_stopped line)
    (AxisRec.mirrored_of_control e (by rw [State.axis_setAxis]; exact gone))
  exact ⟨by simpa using lost, State.noticeHomed_line line _ _⟩

theorem Stopping.abortHoming (h : Stopping halting s) (a : Axis) : Stopping halting (s.abortHoming a) := by
  unfold State.abortHoming
  split
  · exact h.loseAxis (AxisRec.abortHoming_mirrored _) rfl
  · exact h

theorem Stopping.haltWatch (h : Stopping halting s) (w : WatchId) : Stopping halting (s.haltWatch w) :=
  h.congr (s.haltWatch_control w)

theorem Stopping.stopTable (h : Stopping halting s) : Stopping halting s.stopTable := by
  have aborted := ((h.abortHoming .x).abortHoming .y).abortHoming .r
  unfold State.stopTable
  dsimp only
  generalize ((s.abortHoming .x).abortHoming .y).abortHoming .r = u at aborted ⊢
  have halted : Stopping halting (if (s.table.x.isHoming || s.table.y.isHoming || s.table.r.isHoming) = true then
      u.haltWatch .table else u) := by
    split
    · exact aborted.haltWatch _
    · exact aborted
  generalize (if (s.table.x.isHoming || s.table.y.isHoming || s.table.r.isHoming) = true then
      u.haltWatch .table else u) = v at halted ⊢
  split
  · exact Stopping.haltWatch (halted.congr (State.withTable_control (AxisRec.stopMove_bare _) (AxisRec.stopMove_bare _)
      (AxisRec.stopMove_bare _))) _
  · exact halted

theorem Stopping.stopSpan (h : Stopping halting s) : Stopping halting s.stopSpan := by
  have aborted := h.abortHoming .span
  unfold State.stopSpan
  dsimp only
  refine Stopping.haltWatch ?_ _
  split
  · exact aborted.congr (State.withHead_control rfl (AxisRec.stopMove_bare _))
  · exact aborted

theorem Stopping.allows (h : Stopping halting s) {st : HeadState} (halted : st.isHalted = true) :
    s.alarms.line.allows st :=
  Line.allows_halted (by rw [show s.alarms.line.state = .stopped from h.2]; decide) halted

/-- A head that is HALTED in STOPPED, with the notice of it. -/
theorem Stopping.turnHead (h : Stopping halting s) {hd : Head} (span : hd.span.bare = s.head.span.bare)
    (halted : hd.state.isHalted = true) (e : t.control = ({ s with head := hd } : State).control) :
    Stopping false (t.noticeHalted true) :=
  ⟨h.1.turnHead span halted (State.working_of_stopped h.2) (fun _ => h.allows halted) e,
    State.noticeHalted_line ((State.line_of_control e).trans h.2) _⟩

/-- The halt of the head ends what was still to be done. -/
theorem Stopping.haltHead (h : Stopping halting s) : Stopping false s.haltHead := by
  unfold State.haltHead
  split
  · next halted => exact ⟨{ h.1 with allows := fun _ => h.allows halted }, h.2⟩
  · have given : Stopping halting s.giveUpHeld := h.congr s.giveUpHeld_control
    exact given.turnHead (hd := s.giveUpHeld.head.halted) rfl rfl (State.haltWatch_control _ _)

theorem Governed.enterStopped (h : Governed [] halting s) (c : LineCause) : Stopping false (s.enterStopped c) := by
  have stopped : Stopping true (s.setLine .stopped c) :=
    ⟨h.setLine (by trivial) nofun, State.line_of_control (s.setLine_control .stopped c)⟩
  have halted := (stopped.congr (State.abandonMeasurement_control _)).stopTable.haltHead
  exact halted.stopSpan.congr (State.haltConveyor_control _)

/-! ## Raises (R180, R191) -/

theorem Governed.lineEffect (h : Governed [] false s) (src : Source) (c : AlarmClass) : Governed [] false (s.lineEffect src c) := by
  unfold State.lineEffect
  split
  · next due =>
    have ready := h.ready_of_working (State.working_iff.mpr (.inl due.2))
    exact h.setLine ready fun _ => Line.allows_of_working (.inr rfl) _
  · split
    · exact (h.enterStopped _).1
    · exact h

theorem Governed.raise (h : Governed [] false s) (src : Source) (c : AlarmClass) (x : Context) :
    Governed [] false (s.raise src c x) := by
  unfold State.raise
  split
  · exact h
  · exact (h.congr (s.recordRaise_control src c x)).lineEffect src c

/-- After a raise of class STOP the line is STOPPED. -/
theorem Governed.raise_stop (h : Governed [] false s) (src : Source) (x : Context) :
    Stopping false (s.raise src .stop x) := by
  have recorded := h.congr (s.recordRaise_control src .stop x)
  show Stopping false ((s.recordRaise src .stop x).lineEffect src .stop)
  unfold State.lineEffect
  rw [if_neg (by simp)]
  split
  · exact recorded.enterStopped _
  · next stopped => exact ⟨recorded, by simpa using stopped⟩

end

end Sys2Proof.Machine

/-! PROOFS. The judgement that ends an event keeps the laws of the line (R129, R132, R139, R140, R189, R192). -/

namespace Sys2Proof.Machine

section
variable {s t : State}

/-! ## The axes (R119 to R132, R140) -/

theorem AxisRec.leave_bare (w : Nat) (a : AxisRec) : (a.leave w).bare = a.bare := by
  unfold AxisRec.leave
  split
  · next left => simp only [AxisRec.bare, left.1, AxisState.bare]
  · rfl

theorem Governed.judgeDeparture (h : Governed [] false s) : Governed [] false s.judgeDeparture := by
  refine h.congr (State.withTable_control ?_ ?_ ?_)
  all_goals
    unfold Table.departed
    dsimp only
    split
    · exact AxisRec.leave_bare _ _
    · rfl

theorem Governed.judgeFollow (h : Governed [] false s) (a : Axis) : Governed [] false (s.judgeFollow a) := by
  unfold State.judgeFollow
  dsimp only
  split
  · refine Governed.raise ?_ _ _ _
    exact h.congr (State.withTable_control rfl rfl rfl)
  · exact h

theorem AxisRec.settled_bare {a : AxisRec} {w : Nat} (h : a.settled w = true) :
    ({ a with state := .inPosition } : AxisRec).bare = a.bare := by
  simp only [AxisRec.settled, Bool.and_eq_true, Bool.or_eq_true, decide_eq_true_eq] at h
  rcases h.1 with e | e <;> simp only [AxisRec.bare, e, AxisState.bare]

theorem Table.maySettle_settled {tb : Table} (h : tb.maySettle = true) :
    tb.x.settled tb.geometry.window = true ∧ tb.y.settled tb.geometry.window = true
      ∧ tb.r.settled tb.geometry.window = true := by
  simp only [Table.maySettle, Bool.and_eq_true] at h
  obtain ⟨⟨⟨⟨-, x⟩, y⟩, r⟩, -⟩ := h
  exact ⟨x, y, r⟩

theorem Governed.positionTable (h : Governed [] false s) (may : s.table.maySettle = true) :
    Governed [] false s.positionTable := by
  obtain ⟨x, y, r⟩ := Table.maySettle_settled may
  exact (h.congr (State.withTable_control (AxisRec.settled_bare x) (AxisRec.settled_bare y)
    (AxisRec.settled_bare r))).congr (State.stopWatch_control _ _)

theorem Governed.judgeTable (h : Governed [] false s) : Governed [] false s.judgeTable := by
  have timed : Governed [] false { s with table := s.table.timed } := h.congr (State.withTable_control rfl rfl rfl)
  unfold State.judgeTable
  dsimp only
  split
  · next ran =>
    refine timed.positionTable ?_
    simp only [Bool.and_eq_true, Table.timed, Option.isSome_ite] at ran
    exact ran.1
  · exact timed

theorem AxisRec.isParking_state {a : AxisRec} (h : a.isParking = true) : a.state = .homing .park := by
  simpa [AxisRec.isParking] using h

theorem Governed.parkDone (h : Governed [] false s) {a : Axis} (parking : (s.axis a).isParking = true) :
    Governed [] false (s.parkDone a) := by
  have parked : Governed [] false
      ((s.setAxis a { s.axis a with state := .inPosition, parked := none, slowing := false }).reportHomed a) := by
    refine (h.congr (State.setAxis_control ?_)).congr (State.emit_control _ _ _)
    simp only [AxisRec.bare, AxisRec.isParking_state parking, AxisState.bare]
  unfold State.parkDone
  dsimp only
  split
  · exact parked
  · exact parked.congr (State.stopWatch_control _ _)

theorem Governed.judgePark (h : Governed [] false s) (a : Axis) : Governed [] false (s.judgePark a) := by
  unfold State.judgePark
  dsimp only
  split
  · next parking =>
    split
    · split
      · exact h.parkDone parking
      · exact h.congr (State.setAxis_control rfl)
    · exact h.congr (State.setAxis_control rfl)
  · exact h

theorem State.judgeSpan_control (s : State) : s.judgeSpan.control = s.control := by
  unfold State.judgeSpan
  dsimp only
  split
  · next e =>
    split
    · refine (State.stopWatch_control _ _).trans ((State.emit_control _ _ _).trans (State.setAxis_control ?_))
      simp only [AxisRec.bare, State.axis, e, AxisState.bare]
    · rfl
  · next e =>
    split
    · refine (State.stopWatch_control _ _).trans (State.withHead_control rfl ?_)
      simp only [AxisRec.bare, e, AxisState.bare]
    · rfl
  · next e =>
    split
    · rfl
    · refine State.setAxis_control ?_
      simp only [AxisRec.bare, State.axis, e, AxisState.bare]
  · rfl

theorem Governed.judgeAxes (h : Governed [] false s) : Governed [] false s.judgeAxes :=
  Governed.congr (((((((h.judgeDeparture.judgeFollow .x).judgeFollow .y).judgeFollow .r).judgeTable).judgePark .x).judgePark
    .y).judgePark .r) (State.judgeSpan_control _)

/-! ## The head's passages (R139) -/

theorem HeadState.not_halted_of_busy {st : HeadState} (h : st.busy = true) : st.isHalted = false := by
  cases st <;> first | rfl | cases h

/-- A busy head passes to another state. -/
theorem Governed.passage (h : Governed [] false s) {hd : Head} (e : t.control = ({ s with head := hd } : State).control)
    (busy : s.head.state.busy = true) (span : hd.span.bare = s.head.span.bare) (live : hd.state.isHalted = false) :
    Governed [] false t :=
  (h.setHead span (by rw [live, HeadState.not_halted_of_busy busy])
    fun _ => Line.allows_of_busy (h.allows rfl) busy _).congr e

/-- In RUNNING and HOLDING the head may start a stroke. -/
theorem Governed.stroke (h : Governed [] false s) {hd : Head} (e : t.control = ({ s with head := hd } : State).control)
    (work : s.working = true) (span : hd.span.bare = s.head.span.bare) (live : hd.state.isHalted = false) :
    Governed [] false t :=
  (h.setHead span (by rw [live, h.not_halted work])
    fun _ => Line.allows_of_working (State.working_iff.mp work) _).congr e

theorem State.working_of_running (h : s.running = true) : s.working = true :=
  State.working_iff.mpr (.inl (by simpa [State.running] using h))

theorem State.startSpan_control (m : ∀ a, ∃ told, (s.axis a).mirrored told) (homed : s.head.span.homed = true) (n : Int) :
    (s.startSpan n).control = s.control := by
  obtain ⟨told, mirrored⟩ := m .span
  refine (State.startWatch_control _ _ _).trans (State.withHead_control rfl ?_)
  have idle : s.head.span.state.bare = .idle := mirrored.bare_state homed
  simp only [AxisRec.bare, idle]
  split <;> rfl

theorem Governed.mirrored {lost : List Axis} {halting : Bool} (h : Governed lost halting s) (a : Axis) :
    ∃ told, (s.axis a).mirrored told := ⟨_, h.axis a⟩

theorem Governed.judgeSpanMove (h : Governed [] false s) : Governed [] false s.judgeSpanMove := by
  unfold State.judgeSpanMove
  dsimp only
  split
  · exact h
  · split
    · next due =>
      simp only [Bool.and_eq_true] at due
      exact (h.congr (State.startSpan_control h.mirrored due.1.1.1.2 _)).congr (State.judgeSpan_control _)
    · exact h

theorem Governed.judgeForm (h : Governed [] false s) : Governed [] false s.judgeForm := by
  unfold State.judgeForm
  split <;> split
  · next due =>
    simp only [Bool.and_eq_true, decide_eq_true_eq] at due
    exact h.passage (State.startWatch_control _ _ _) (by rw [due.1]; rfl) rfl rfl
  · exact h
  · next due =>
    simp only [State.discardInCourse, Bool.and_eq_true, decide_eq_true_eq] at due
    exact h.passage (State.startWatch_control _ _ _) (by rw [due.1.1.2]; rfl) rfl rfl
  · exact h

theorem Governed.judgeRise (h : Governed [] false s) : Governed [] false s.judgeRise := by
  unfold State.judgeRise
  split
  · next due =>
    simp only [Bool.and_eq_true, decide_eq_true_eq] at due
    exact h.passage (State.stopWatch_control _ _) (by rw [due.1.1]; rfl) rfl rfl
  · exact h

theorem Governed.judgeDiscard (h : Governed [] false s) : Governed [] false s.judgeDiscard := by
  unfold State.judgeDiscard
  split
  · next due =>
    simp only [Bool.and_eq_true, decide_eq_true_eq] at due
    exact h.passage (State.stopWatch_control _ _) (by rw [due.1]; rfl) rfl rfl
  · exact h

theorem Governed.judgeHead (h : Governed [] false s) : Governed [] false s.judgeHead :=
  ((h.judgeSpanMove.judgeForm).judgeRise).judgeDiscard

/-! ## The boards and the conveyor -/

@[simp] theorem State.finishActive_control (s : State) : s.finishActive.control = s.control := by
  unfold State.finishActive
  split
  · rfl
  · exact State.emit_control _ _ _

theorem completeActive_control (n : Nat) (s : State) : (completeActive n s).control = s.control := by
  induction n generalizing s with
  | zero => rfl
  | succ n ih =>
    unfold completeActive
    split
    · rfl
    · split
      · split
        · rw [ih, State.finishActive_control]; rfl
        · rfl
        · rfl
      · rfl

@[simp] theorem State.endTransportWait_control (s : State) : s.endTransportWait.control = s.control := by
  unfold State.endTransportWait State.reportCleared
  dsimp only
  split
  · exact State.emit_control _ _ _
  · rfl

theorem State.judgeEntryWait_control (s : State) : s.judgeEntryWait.control = s.control := by
  unfold State.judgeEntryWait
  split
  · split
    · exact State.endTransportWait_control _
    · split
      · rfl
      · exact State.endTransportWait_control _
  · rfl

theorem State.startEntryRun_control (s : State) : s.startEntryRun.control = s.control := by
  unfold State.startEntryRun
  dsimp only
  split
  · rw [State.setPhase, State.modifyBoard_control, State.endTransportWait_control, State.startWatch_control]; rfl
  · rw [State.endTransportWait_control, State.startWatch_control]; rfl

theorem State.judgeBoards_control (s : State) : s.judgeBoards.control = s.control := by
  unfold State.judgeBoards
  trans (((completeActive 2 s).judgeEntryWait).judgeEntryRun).control
  · unfold State.judgeLoadRequest
    split
    · exact State.withTable_control rfl rfl rfl
    · rfl
  · unfold State.judgeEntryRun
    split
    · rw [State.startEntryRun_control, State.judgeEntryWait_control, completeActive_control]
    · rw [State.judgeEntryWait_control, completeActive_control]

/-! ## The starts -/

theorem State.startStroke_control (s : State) : s.startStroke.control = s.control := by
  unfold State.startStroke
  split
  · exact State.startWatch_control _ _ _
  · rfl

theorem Governed.startDiscard (h : Governed [] false s) : Governed [] false s.startDiscard := by
  unfold State.startDiscard
  split
  · next due =>
    simp only [State.discardDue, Bool.and_eq_true] at due
    exact h.stroke (State.startWatch_control _ _ _) (State.working_of_running due.1.1) rfl rfl
  · exact h

theorem AxisRec.startMove_bare {a : AxisRec} (idle : a.state.bare = .idle) (n : Int) : (a.startMove n).bare = a.bare := by
  simp only [AxisRec.bare, AxisRec.startMove, idle]
  split <;> rfl

theorem Governed.startMove (h : Governed [] false s) (homed : s.table.homed = true) (p : Purpose) :
    Governed [] false (s.startMove p) := by
  simp only [Table.homed, Bool.and_eq_true] at homed
  obtain ⟨⟨x, y⟩, r⟩ := homed
  unfold State.startMove
  split
  · exact h
  · exact (h.congr (State.withTable_control (AxisRec.startMove_bare ((h.axis .x).bare_state x) _)
      (AxisRec.startMove_bare ((h.axis .y).bare_state y) _)
      (AxisRec.startMove_bare ((h.axis .r).bare_state r) _))).congr (State.startWatch_control _ _ _)

theorem State.entryMoveDue_homed {ref : EntryRef} (h : s.entryMoveDue = some ref) : s.table.homed = true := by
  unfold State.entryMoveDue at h
  split at h
  · cases h
  · split at h
    · next due =>
      simp only [Bool.and_eq_true] at due
      exact due.1.1.2
    · cases h

theorem Governed.startEntryMove (h : Governed [] false s) : Governed [] false s.startEntryMove := by
  unfold State.startEntryMove
  split
  · next due => exact h.startMove (State.entryMoveDue_homed due) _
  · exact h

theorem Governed.startLoadMove (h : Governed [] false s) : Governed [] false s.startLoadMove := by
  unfold State.startLoadMove
  split
  · next due =>
    simp only [State.loadMoveDue, Bool.and_eq_true] at due
    exact h.startMove due.1.2 _
  · exact h

theorem Governed.judgeMoves (h : Governed [] false s) : Governed [] false s.judgeMoves := by
  unfold State.judgeMoves
  split
  · exact h.startEntryMove.startLoadMove.judgeAxes
  · exact h

theorem Governed.startPick (h : Governed [] false s) : Governed [] false s.startPick := by
  unfold State.startPick
  split
  · next due =>
    simp only [State.pickDue, Bool.and_eq_true] at due
    refine (h.stroke (t := s.enterPick) (State.startWatch_control _ _ _) (State.working_of_running due.1.1) rfl
      rfl).congr ?_
    exact State.withHead_control rfl rfl
  · exact h

theorem Governed.startDrive (h : Governed [] false s) : Governed [] false s.startDrive := by
  unfold State.startDrive
  split
  · next due =>
    simp only [State.driveDue, Bool.and_eq_true] at due
    exact h.stroke (State.startWatch_control _ _ _) (State.working_of_running due.1.1.1) rfl rfl
  · exact h

theorem State.startLoad_control (s : State) : s.startLoad.control = s.control := by
  unfold State.startLoad
  split
  · dsimp only
    split
    · exact State.startEntryRun_control _
    · rfl
  · rfl

theorem State.startUnload_control (s : State) : s.startUnload.control = s.control := by
  unfold State.startUnload
  split <;> rfl

theorem State.runExit_control (s : State) (seen : Bool) : (s.runExit seen).control = s.control :=
  State.startWatch_control _ _ _

theorem State.startExitRun_control (s : State) : s.startExitRun.control = s.control := by
  unfold State.startExitRun
  split
  · exact s.runExit_control _
  · rfl

theorem Governed.judgeStarts (h : Governed [] false s) : Governed [] false s.judgeStarts := by
  have moved := (h.congr s.startStroke_control).startDiscard.judgeDiscard.judgeMoves.startPick.startDrive
  exact ((moved.congr (State.startLoad_control _)).congr (State.startUnload_control _)).congr
    (State.startExitRun_control _)

/-! ## The line (R84, R145, R189, R192) -/

theorem Governed.judgeStarved (h : Governed [] false s) : Governed [] false s.judgeStarved := by
  unfold State.judgeStarved
  split
  · exact h.congr rfl
  · split
    · exact h
    · split
      · refine Governed.raise ?_ _ _ _
        exact h.congr rfl
      · exact h.congr rfl

theorem State.judgeBoardWait_control (s : State) : s.judgeBoardWait.control = s.control := by
  unfold State.judgeBoardWait
  split
  · rfl
  · unfold State.endHeadWait State.reportCleared
    dsimp only
    split
    · exact State.emit_control _ _ _
    · rfl
  · rfl

theorem State.headRecovered_rest (h : s.headRecovered = true) : s.head.state = .top ∨ s.head.state = .wait := by
  simp only [State.headRecovered, Bool.and_eq_true, Bool.or_eq_true, decide_eq_true_eq] at h
  exact h.1.1

theorem Governed.judgeRecovery (h : Governed [] false s) : Governed [] false s.judgeRecovery := by
  unfold State.judgeRecovery
  split
  · next parts recovering recovery =>
    dsimp only
    have allowed := h.allows rfl
    unfold Line.allows at allowed
    rw [show s.alarms.line.state = .recovering from recovering] at allowed
    have rest (done : (parts.head || s.headRecovered) = true) : s.head.state = .top ∨ s.head.state = .wait := by
      rcases Bool.or_eq_true _ _ ▸ done with e | e
      · exact allowed parts recovery e
      · exact State.headRecovered_rest e
    have noted : Governed [] false { s with alarms := { s.alarms with line := { s.alarms.line with
        recovery := some { chain := parts.chain || s.chain.index = .idle, head := parts.head || s.headRecovered } } } } := by
      refine h.withLine rfl rfl (fun a => by cases a <;> rfl) ?_ fun _ => ?_
      · unfold Line.agrees
        rw [show s.alarms.line.state = .recovering from recovering]
        trivial
      · unfold Line.allows
        rw [show s.alarms.line.state = .recovering from recovering]
        intro r e done
        cases e
        exact rest done
    split
    · next done =>
      have still := rest (Bool.and_eq_true _ _ ▸ done).2
      split
      · next ready =>
        exact noted.setLine ready fun _ => still.elim .inl fun e => .inr (.inl e)
      · next unready =>
        exact noted.setLine (Bool.eq_false_iff.mpr unready) fun _ => still.elim .inl fun e => .inr (.inl e)
    · exact noted
  · exact h

theorem State.quiescent_rest (h : s.quiescent = true) : s.head.state = .top ∨ s.head.state = .wait := by
  simp only [State.quiescent, Bool.and_eq_true, Bool.or_eq_true, decide_eq_true_eq] at h
  tauto

theorem Governed.judgeQuiescent (h : Governed [] false s) : Governed [] false s.judgeQuiescent := by
  unfold State.judgeQuiescent
  split
  · next due =>
    exact h.setLine (h.ready_of_working (State.working_iff.mpr (.inr due.1))) fun _ =>
      (State.quiescent_rest due.2).elim .inl fun e => .inr (.inl e)
  · exact h

/-- The judgement keeps the laws of the line. -/
theorem Governed.judge (h : Governed [] false s) : Governed [] false s.judge := by
  have started := (h.judgeAxes.judgeHead.congr (State.judgeBoards_control _)).judgeStarts
  exact ((started.judgeStarved).congr (State.judgeBoardWait_control _)).judgeRecovery.judgeQuiescent

end

end Sys2Proof.Machine

/-! PROOFS. The operations of the chain, the stations, the boards and the conveyor leave the laws of the line, and a station's own
operations leave every law of the entries (R3, R33, R44, R45, R69, R187). -/

namespace Sys2Proof.Machine

section
variable {s t : State} {lost : List Axis} {halting : Bool}

/-! ## The stations (R23 to R45) -/

theorem State.modifyCode_unread (s : State) (n : Nat) (f : CodeRecord → CodeRecord) : Unread s (s.modifyCode n f) :=
  ⟨rfl, rfl⟩

theorem State.emit_unread (s : State) (k : Byte) (p : List Byte) : Unread s (s.emit k p) :=
  ⟨s.emit_core k p, s.emit_control k p⟩

theorem State.changeover_unread (s : State) (k : Fin 80) : Unread s (s.changeover k) := by
  unfold State.changeover
  split
  · exact Unread.refl s
  · split
    · exact Unread.refl s
    · split
      · split
        · exact (State.emit_unread _ _ _).after (s.modifyCode_unread _ _)
        · exact (State.emit_unread _ _ _).after (s.modifyCode_unread _ _)
      · exact Unread.refl s

theorem State.takeover_unread (s : State) (k : Fin 80) : Unread s (s.takeover k) := by
  unfold State.takeover
  split
  · exact Unread.refl s
  · split
    · exact Unread.refl s
    · split
      · exact (State.emit_unread _ _ _).after (s.modifyCode_unread _ _)
      · exact Unread.refl s

theorem State.setStation_unread (s : State) (k : Fin 80) (r : Station) : Unread s (s.setStation k r) := ⟨rfl, rfl⟩

theorem State.moveStation_unread (s : State) (k : Fin 80) (new : StationState) : Unread s (s.moveStation k new) := by
  unfold State.moveStation
  dsimp only
  split
  · exact (State.changeover_unread _ _).after (s.setStation_unread _ _)
  · split
    · exact (State.takeover_unread _ _).after (s.setStation_unread _ _)
    · exact s.setStation_unread _ _

theorem State.lowerPending_unread (s : State) (k : Fin 80) : Unread s (s.lowerPending k) := ⟨rfl, rfl⟩

theorem State.setOwners_unread (s : State) (n : Nat) (l : List (Fin 80)) : Unread s (s.setOwners n l) := by
  constructor
  · simp only [State.core, State.setOwners]
  · simp only [State.control, State.setOwners]

/-! ## The boards and the pockets -/

@[simp] theorem State.fallBack_control (s : State) (ref : EntryRef) (c : Bool) (k : Option (Fin 80)) :
    (s.fallBack ref c k).control = s.control := by
  unfold State.fallBack State.raiseMissed
  split
  · split
    · split
      · exact State.raise_warn_control _ _ _
      · split
        · exact State.raise_warn_control _ _ _
        · rfl
    · rfl
  · rfl

@[simp] theorem State.withdraw_control (s : State) (p : Fin 128) : (s.withdraw p).control = s.control := by
  unfold State.withdraw
  dsimp only
  split
  · split <;> rfl
  · rfl

@[simp] theorem State.withdrawAt_control (k : Fin 80) (s : State) (q : Fin 128) :
    (s.withdrawAt k q).control = s.control := by
  unfold State.withdrawAt
  dsimp only
  split
  · split
    · rw [State.fallBack_control, State.withdraw_control]
    · exact s.withdraw_control _
  · rfl

theorem foldl_control {α : Type} {f : State → α → State} (hf : ∀ s a, (f s a).control = s.control) (l : List α) (s : State) :
    (l.foldl f s).control = s.control := by
  induction l generalizing s with
  | nil => rfl
  | cons a l ih => exact (ih (f s a)).trans (hf s a)

@[simp] theorem State.withdrawStation_control (s : State) (k : Fin 80) : (s.withdrawStation k).control = s.control :=
  foldl_control (State.withdrawAt_control k) _ s

@[simp] theorem State.orphan_control (s : State) (p : Fin 128) (c : PocketCause) : (s.orphan p c).control = s.control := by
  unfold State.orphan
  dsimp only
  split <;> rfl

@[simp] theorem State.releasePocket_control (s : State) (e : Entry) (c : PocketCause) :
    (s.releasePocket e c).control = s.control := by
  unfold State.releasePocket
  split
  · rfl
  · split
    · exact s.withdraw_control _
    · exact s.orphan_control _ _
    · exact s.orphan_control _ _
    · exact s.orphan_control _ _
    · rfl

theorem State.skipEntry_control (s : State) (ref : EntryRef) (e : Entry) : (s.skipEntry ref e).control = s.control :=
  s.releasePocket_control e .skipped

theorem State.discardNotice_control (s : State) (id : Nat) : (s.discardNotice id).control = s.control := by
  unfold State.discardNotice
  split
  · split
    · exact State.withHead_control rfl rfl
    · rfl
  · rfl

theorem State.abandonEntries_control (s : State) (b : Board) : (s.abandonEntries b).control = s.control :=
  (State.discardNotice_control _ _).trans (foldl_control (fun s e => s.releasePocket_control e .abandoned) b.entries s)

theorem State.removeNext_control (s : State) : s.removeNext.control = s.control := by
  unfold State.removeNext
  split
  · rfl
  · exact State.emit_control _ _ _

/-! ## Quarantine, misfeed and the notices of a measurement (R34, R35, R114) -/

theorem Governed.takeOut (h : Governed [] false s) (k : Fin 80) (new : StationState) :
    Governed [] false ((s.moveStation k new).withdrawStation k) :=
  (h.congr (s.moveStation_unread k new).control).congr (State.withdrawStation_control _ _)

theorem Governed.quarantine (h : Governed [] false s) (k : Fin 80) : Governed [] false (s.quarantine k) := by
  unfold State.quarantine
  refine Governed.raise ?_ _ _ _
  split
  case h_5 => exact h
  all_goals exact h.takeOut k _

theorem Governed.misfeed (h : Governed [] false s) (k : Fin 80) : Governed [] false (s.misfeed k) := by
  unfold State.misfeed
  split
  case h_6 => exact h
  case h_4 | h_5 => exact h.raise _ _ _
  all_goals exact (h.takeOut k _).raise _ _ _

theorem Governed.failNotice (h : Governed [] false s) (k : Fin 80) : Governed [] false (s.failNotice k) := by
  unfold State.failNotice
  dsimp only
  split
  · exact Governed.quarantine (h.congr (State.setStation_control _ _ _)) k
  · exact h.congr (State.setStation_control _ _ _)

theorem Governed.rejectPocket (h : Governed [] false s) (m : Measurement) (r : VerifyResult) (reading : Option Nat) :
    Governed [] false (s.rejectPocket m r reading) := by
  refine inOrder3_keeps (P := Governed [] false) _ (fun u hu => hu.congr (u.fallBack_control _ _ _))
    (fun u hu => hu.failNotice _) (fun u hu => hu.raise _ _ _) ?_
  exact h.congr rfl

theorem Governed.judgePocket (h : Governed [] false s) (m : Measurement) (r : VerifyResult) (reading : Option Nat) :
    Governed [] false (s.judgePocket m r reading) := by
  unfold State.judgePocket
  split
  · exact h.congr rfl
  · exact h.rejectPocket m _ reading
  · exact h.congr rfl
  · exact h

theorem Governed.completeMeasurement (h : Governed [] false s) (forward reverse : Nat) :
    Governed [] false (s.completeMeasurement forward reverse) := by
  unfold State.completeMeasurement
  split
  · exact h
  · split
    · refine Governed.judgePocket ?_ _ _ _
      exact h.congr rfl
    · exact h

theorem State.startMeasurement_control (s : State) : s.startMeasurement.control = s.control := by
  unfold State.startMeasurement
  dsimp only
  split
  · split
    · split
      · rfl
      · split
        · rfl
        · split <;> rfl
    · rfl
  · rfl

/-! ## Assignment, fires and the chain -/

theorem State.assign_control (s : State) (p : Fin 128) (ref : EntryRef) (src : CandidateSource) (k : Fin 80) :
    (s.assign p ref src k).control = s.control := by
  unfold State.assign State.fence
  dsimp only
  split <;> split <;> split <;> rfl

theorem State.requestAssignment_control (s : State) (p : Fin 128) : (s.requestAssignment p).control = s.control := by
  rcases s.requestAssignment_cases p with same | ⟨ref, src, k, e, -⟩
  · rw [same]
  · rw [e, State.assign_control]

theorem State.fireInto_control (s : State) (k : Fin 80) (p : Fin 128) : (s.fireInto k p).control = s.control := by
  unfold State.fireInto
  dsimp only
  split
  · rw [State.raise_warn_control]
    split <;> rfl
  · split <;> rfl

theorem State.fire_control (s : State) (k : Fin 80) : (s.fire k).control = s.control := by
  unfold State.fire
  split
  · exact s.fireInto_control _ _
  · rfl

theorem State.fireAll_control (s : State) : s.fireAll.control = s.control := foldl_control State.fire_control _ s

theorem State.driveIndex_control (s : State) : s.driveIndex.control = s.control := State.startWatch_control _ _ _

theorem State.requestIndex_control (s : State) : s.requestIndex.control = s.control := by
  unfold State.requestIndex
  split
  · exact s.driveIndex_control
  · rfl

theorem State.interruptIndex_control (s : State) : s.interruptIndex.control = s.control := by
  unfold State.interruptIndex
  split
  · exact State.haltWatch_control _ _
  · rfl

theorem State.recoverIndex_control (s : State) : s.recoverIndex.control = s.control := by
  unfold State.recoverIndex
  split
  · exact s.driveIndex_control
  · rfl

theorem Governed.misfeedNotices (h : Governed [] false s) (v : Pocket) : Governed [] false (s.misfeedNotices v) :=
  State.misfeedNotices_keeps (P := Governed [] false) (fun u hu => hu.congr u.draw_control) (fun _ k _ hu => hu.misfeed k)
    (fun u ref _ hu => hu.congr (u.fallBack_control ref true v.station)) h

theorem Governed.checkPresence (h : Governed [] false s) (seen : Bool) : Governed [] false (s.checkPresence seen) := by
  unfold State.checkPresence
  dsimp only
  split
  · refine h.congr ?_
    cases (s.pocket (s.pocketAt 84)).entry <;> rfl
  · exact Governed.misfeedNotices (h.congr (s.setPocket_control _ _)) _
  · exact h.congr ((State.draw_control _).trans ((State.raise_warn_control _ _ _).trans (s.setPocket_control _ _)))
  · exact h.congr (s.setPocket_control _ _)
  · exact h

theorem Governed.checkAndFire (h : Governed [] false s) (seen : Bool) : Governed [] false (s.checkAndFire seen) := by
  have drawn := h.congr s.draw_control
  unfold State.checkAndFire
  split
  · exact Governed.checkPresence (drawn.congr (State.fireAll_control _)) seen
  · exact (drawn.checkPresence seen).congr (State.fireAll_control _)

theorem Governed.completeIndex (h : Governed [] false s) (seen : Bool) : Governed [] false (s.completeIndex seen) := by
  rw [State.completeIndex_eq]
  split
  · have arrived : Governed [] false (s.advanced.stopWatch .chain) := h.congr (State.stopWatch_control _ _)
    exact (arrived.checkAndFire seen).congr (State.startMeasurement_control _)
  · exact h

theorem State.completeStroke_control (s : State) : s.completeStroke.control = s.control := by
  unfold State.completeStroke
  split
  · rfl
  · exact State.stopWatch_control _ _

/-! ## The conveyor (R160 to R164) -/

theorem State.endEntryRun_control (s : State) : s.endEntryRun.control = s.control := State.stopWatch_control _ _

theorem State.endExitRun_control (s : State) : s.endExitRun.control = s.control :=
  (State.finishActive_control _).trans (State.stopWatch_control _ _)

theorem State.stopSensorArrival_control (s : State) (made : Bool) : (s.stopSensorArrival made).control = s.control := by
  unfold State.stopSensorArrival
  dsimp only
  split
  · exact State.endEntryRun_control _
  · rfl
  · rfl

theorem State.clampClosedArrival_control (s : State) (made : Bool) : (s.clampClosedArrival made).control = s.control := by
  unfold State.clampClosedArrival
  dsimp only
  split
  · unfold State.confirmClamp
    dsimp only
    split
    · exact State.emit_control _ _ _
    · rfl
  · rfl

theorem State.clampOpenArrival_control (s : State) (made : Bool) : (s.clampOpenArrival made).control = s.control := by
  unfold State.clampOpenArrival
  dsimp only
  split <;> rfl

theorem State.exitSensorArrival_control (s : State) (made : Bool) : (s.exitSensorArrival made).control = s.control := by
  unfold State.exitSensorArrival
  dsimp only
  split
  · rfl
  · exact State.endExitRun_control _
  · rfl

theorem State.restartConveyor_control (s : State) : s.restartConveyor.control = s.control := by
  unfold State.restartConveyor
  split
  · exact s.endEntryRun_control
  · exact State.startWatch_control _ _ _
  · split
    · exact s.endExitRun_control
    · exact s.runExit_control _
  · rfl

end

end Sys2Proof.Machine

/-! PROOFS. The rows of the table, the head and the inputs, and the commands of the line keep the laws of the line (R119 to R141,
R149 to R154, R170, R186 to R192). -/

namespace Sys2Proof.Machine

section
variable {s t u : State} {lost : List Axis} {halting : Bool}

/-! ## The head (R142 to R149) -/

theorem State.enterRise_control (s : State) :
    s.enterRise.control = ({ s with head := { s.head with state := .rise } } : State).control :=
  (State.startWatch_control _ _ _).trans (by simp only [State.control])

theorem State.control_withHead (e : t.control = u.control) {a b : Head} (state : a.state = b.state)
    (span : a.span.bare = b.span.bare) :
    ({ t with head := a } : State).control = ({ u with head := b } : State).control := by
  have line := State.control_line e
  have store := State.control_store e
  have x : t.table.x.bare = u.table.x.bare := congrArg (·.table.x) e
  have y : t.table.y.bare = u.table.y.bare := congrArg (·.table.y) e
  have r : t.table.r.bare = u.table.r.bare := congrArg (·.table.r) e
  simp only [State.control, line, store, x, y, r, state, span]

theorem State.control_span (e : t.control = s.control) : t.head.span.bare = s.head.span.bare := congrArg (·.head.span) e

/-- A busy head that gives its entry up and returns. -/
theorem Governed.enterRise (h : Governed [] false s) (busy : s.head.state.busy = true) (e : t.control = s.control) :
    Governed [] false t.enterRise := by
  refine h.passage (hd := { s.head with state := .rise }) ?_ busy rfl rfl
  rw [State.enterRise_control]
  exact State.control_withHead e rfl (State.control_span e)

theorem Governed.completePick (h : Governed [] false s) : Governed [] false s.completePick := by
  unfold State.completePick
  dsimp only
  split
  · next picking =>
    have busy : s.head.state.busy = true := by rw [picking]; rfl
    generalize e2 : State.stopWatch _ WatchId.head = u
    have e : u.control = s.control := by
      rw [← e2, State.stopWatch_control]
      exact State.withHead_control rfl rfl
    have unowned : Governed [] false u.takeUnowned := by
      unfold State.takeUnowned
      dsimp only
      split
      · refine h.passage (hd := { s.head with state := .discard }) ?_ busy rfl rfl
        exact (State.startWatch_control _ _ _).trans (State.control_withHead e rfl (State.control_span e))
      · refine h.passage (hd := { s.head with state := .wait }) ?_ busy rfl rfl
        exact (State.stopWatch_control _ _).trans (State.control_withHead e rfl (State.control_span e))
    split
    · unfold State.takeEntry
      split
      · exact unowned
      · refine h.passage (hd := { s.head with state := .pickSpanWait }) ?_ busy rfl rfl
        exact State.control_withHead (t := u.modifyEntry _ _) e rfl (State.control_span e)
    · exact unowned
  · exact h

theorem Governed.completeForm (h : Governed [] false s) : Governed [] false s.completeForm := by
  unfold State.completeForm
  split
  · next form => exact h.passage (State.stopWatch_control _ _) (by rw [form]; rfl) rfl rfl
  · exact h

theorem HeadState.see_cases (st : HeadState) (side : Side) :
    st.see side = st ∨ (st.busy = true ∧ (st.see side).isHalted = false) := by
  cases st <;> cases side <;> first | exact .inl rfl | exact .inr ⟨rfl, rfl⟩

theorem Governed.seeLead (h : Governed [] false s) (side : Side) :
    Governed [] false { s with head := { s.head with state := s.head.state.see side } } := by
  rcases s.head.state.see_cases side with e | ⟨busy, live⟩
  · exact h.congr (State.withHead_control e rfl)
  · exact h.passage rfl busy rfl live

theorem Governed.completeDrive (h : Governed [] false s) : Governed [] false s.completeDrive := by
  unfold State.completeDrive
  split
  · next driving _ =>
    have busy : s.head.state.busy = true := by rw [driving]; rfl
    split
    · split
      · exact h.passage (State.startWatch_control _ _ _) busy rfl rfl
      · exact h.enterRise busy s.insertHeld_control
    · exact (h.enterRise busy (s.failHeld_control _ _)).raise _ _ _
  · exact h

theorem Governed.completeClinch (h : Governed [] false s) (left right : Bool) :
    Governed [] false (s.completeClinch left right) := by
  unfold State.completeClinch
  dsimp only
  split
  · next clinching =>
    have busy : s.head.state.busy = true := by rw [clinching]; rfl
    split
    · exact h.enterRise busy (State.insertHeld_control _)
    · refine Governed.raise ?_ _ _ _
      exact h.enterRise busy (State.unclinchHeld_control _)
  · exact h

theorem State.clinchHomeArrival_control (s : State) (made : Bool) : (s.clinchHomeArrival made).control = s.control := by
  unfold State.clinchHomeArrival
  dsimp only
  split
  · exact State.withHead_control rfl rfl
  · rfl

theorem Governed.idle_of_halted (h : Governed lost halting s) (halted : s.head.state.isHalted = true) :
    s.working = false := by
  rw [Bool.eq_false_iff]
  intro work
  rw [h.not_halted work] at halted
  cases halted

theorem Governed.headTopArrival (h : Governed [] false s) (made : Bool) : Governed [] false (s.headTopArrival made) := by
  unfold State.headTopArrival
  dsimp only
  split
  · next halted =>
    exact h.turnHead (hd := { s.head with state := .top }) rfl rfl (h.idle_of_halted (by rw [halted]; rfl))
      (fun _ => Line.allows_top _) ((State.stopWatch_control _ _).trans (by simp only [State.control]))
  · exact h.congr rfl

/-! ## The axes (R120 to R123, R131, R135, R141) -/

theorem AxisRec.edge_mirrored {a : AxisRec} (drive : a.drive = true) (n : Int) : (a.edge n).mirrored true :=
  ⟨rfl, rfl, fun off => by rw [show (a.edge n).drive = a.drive from rfl, drive] at off; cases off⟩

theorem AxisRec.mirrored.drive {a : AxisRec} {told : Bool} (h : a.mirrored told) (homing : a.state ≠ .unhomed) :
    a.drive = true := by
  cases e : a.drive
  · exact absurd (h.2.2 e) homing
  · rfl

theorem State.edgeWatch_control (s : State) (a : Axis) : (s.edgeWatch a).control = s.control := by
  unfold State.edgeWatch
  split
  · exact State.startWatch_control _ _ _
  · split
    · rfl
    · exact State.startWatch_control _ _ _

theorem Governed.switchEdge (h : Governed [] false s) {a : Axis} (search : (s.axis a).state = .homing .search) :
    Governed [] false (s.switchEdge a) :=
  (h.gainAxis (AxisRec.edge_mirrored ((h.axis a).drive (by rw [search]; nofun)) (s.parkTarget a))).congr
    (State.edgeWatch_control _ a)

theorem Governed.homeSwitchArrival (h : Governed [] false s) (a : Axis) (made : Bool) :
    Governed [] false (s.homeSwitchArrival a made) := by
  have pinned : Governed [] false { s with pins := setHomeSwitch s.pins a made } := h.congr rfl
  unfold State.homeSwitchArrival
  dsimp only
  split
  · next clear =>
    refine pinned.congr (State.setAxis_control ?_)
    simp only [AxisRec.bare, clear, AxisState.bare]
  · next search =>
    exact pinned.switchEdge search
  · exact pinned

theorem Governed.tableTimeout (h : Governed [] false s) : Governed [] false s.tableTimeout := by
  have expired := h.congr (s.expire_control .table)
  unfold State.tableTimeout
  split
  · exact expired.raise _ _ _
  · exact (expired.raise _ _ _).congr (State.draw_control _)

theorem AxisRec.count_bare (a : AxisRec) (positive : Bool) (steps : Int) : (a.count positive steps).bare = a.bare := by
  unfold AxisRec.count
  dsimp only
  split
  · rw [AxisRec.issue_keeps]; rfl
  · rfl

theorem AxisRec.of_moving_bare {a b : AxisRec} (moving : a.state = .moving) (homed : b.homed = a.homed)
    (drive : b.drive = a.drive) (state : b.state = .settling ∨ b.state = .idle) : b.bare = a.bare := by
  rcases state with e | e <;> simp only [AxisRec.bare, homed, drive, e, moving, AxisState.bare]

/-! ## The inputs (R166, R169, R174) -/

theorem State.setSlow_unread (s : State) (i : SlowInput) (r : SlowRec) : Unread s (s.setSlow i r) := by
  cases i <;> exact ⟨rfl, rfl⟩

theorem State.tapeArrival_unread (s : State) (k : Fin 80) (present : Bool) : Unread s (s.tapeArrival k present) := by
  have sensed := s.setStation_unread k { s.station k with tape := present }
  have emptied := (State.moveStation_unread _ k .empty).after sensed
  unfold State.tapeArrival
  dsimp only
  split
  · exact sensed
  · split
    · exact ⟨(State.raise_warn_core _ _ _).trans emptied.core, (State.raise_warn_control _ _ _).trans emptied.control⟩
    · exact ⟨(State.raise_warn_core _ _ _).trans emptied.core, (State.raise_warn_control _ _ _).trans emptied.control⟩
    · exact sensed

theorem State.setCondition_unread (s : State) (src : Source) (b : Bool) : Unread s (s.setCondition src b) := ⟨rfl, rfl⟩

theorem Governed.slowArrival (h : Governed [] false s) (i : SlowInput) : Governed [] false (s.slowArrival i) := by
  have level (v : State) (hv : Governed [] false v) (src : Source) (present : Bool) :
      Governed [] false (v.levelArrival src present) := by
    have noted := hv.congr (v.setCondition_unread src present).control
    unfold State.levelArrival
    dsimp only
    split
    · exact noted.raise _ _ _
    · exact noted
  have set := h.congr (s.setSlow_unread i { s.slow i with state := Debounced.ofRaw (s.slow i).raw }).control
  cases i with
  | tape k => exact set.congr (State.tapeArrival_unread _ k _).control
  | airOk => exact level _ set _ _
  | guardClosed => exact level _ set _ _

theorem Governed.rawChange (h : Governed [] false s) (i : SlowInput) (made : Bool) : Governed [] false (s.rawChange i made) := by
  have set := h.congr (s.setSlow_unread i { s.slow i with raw := made, since := 0 }).control
  unfold State.rawChange
  dsimp only
  split
  · exact h
  · split
    · exact set.slowArrival i
    · exact set

theorem Governed.expireWait (h : Governed [] false s) (w : BoardWait) : Governed [] false (s.expireWait w) := by
  unfold State.expireWait
  split
  · exact h
  · refine Governed.congr (Governed.raise (s := s.setBoardWait w _) ?_ _ _ _) (State.draw_control _)
    cases w <;> exact h.congr rfl

/-! ## Notices of lost homings (R121, R136, R141) -/

theorem State.noticeHomed_axis (s : State) (a b : Axis) (v : Bool) : (s.noticeHomed a v).axis b = s.axis b := by
  unfold State.noticeHomed State.judgeReadiness State.setLine
  cases b <;> simp only [State.axis] <;> split <;> first | rfl | (split <;> simp)

theorem State.judgeReadiness_idle (s : State) (f : ReadyField) : (s.judgeReadiness f).working = false ∨ s.working = true := by
  unfold State.judgeReadiness
  split
  · exact .inl (State.working_congr (s := { s with alarms := { s.alarms with line := s.alarms.line.entered .ready } })
      (by rw [State.control_line (s.setLine_control _ _)]))
  · exact .inl (State.working_congr (s := { s with alarms := { s.alarms with line := s.alarms.line.entered .unready } })
      (by rw [State.control_line (s.setLine_control _ _)]))
  · exact .inl (State.working_congr (s := { s with alarms := { s.alarms with line := s.alarms.line.entered .unready } })
      (by rw [State.control_line (s.setLine_control _ _)]))
  · cases s.working
    · exact .inl rfl
    · exact .inr rfl

theorem State.noticeHomed_idle (idle : s.working = false) (a : Axis) (b : Bool) : (s.noticeHomed a b).working = false := by
  have same : ({ s with alarms := { s.alarms with line := s.alarms.line.setHomed a b } } : State).working = false :=
    (State.working_congr (s.alarms.line.setHomed_rest a b).1).trans idle
  unfold State.noticeHomed
  split
  · exact idle
  · exact (State.judgeReadiness_idle _ _).resolve_right (by rw [same]; decide)

theorem Governed.noticeAll (h : Governed lost halting s) (idle : s.working = false) {l : List Axis}
    (gone : ∀ a ∈ l, (s.axis a).mirrored false) :
    Governed (lost.filter (· ∉ l)) halting (l.foldl (fun s a => s.noticeHomed a false) s) := by
  induction l generalizing s lost with
  | nil => simpa using h
  | cons a l ih =>
    have next := ih (h.noticeLost idle (gone a (.head _))) (State.noticeHomed_idle idle a false)
      (fun b hb => by rw [State.noticeHomed_axis]; exact gone b (.tail _ hb))
    rw [List.filter_filter] at next
    simpa [not_or, Bool.and_comm] using next

/-! ## The emergency stop (R136, R153, R170) -/

theorem AxisRec.estop_mirrored (a : AxisRec) : a.estop.mirrored false := ⟨rfl, rfl, fun _ => rfl⟩

theorem Stopping.estopTable (h : Stopping false s) : Stopping false s.estopTable := by
  have lost := ((h.1.loseAxis (a := .x) s.table.x.estop_mirrored).loseAxis (a := .y) s.table.y.estop_mirrored).loseAxis
    (a := .r) s.table.r.estop_mirrored
  have e : (({ s with table := s.table.estop } : State).haltWatch .table).control
      = (((s.setAxis .x s.table.x.estop).setAxis .y s.table.y.estop).setAxis .r s.table.r.estop).control :=
    (State.haltWatch_control _ _).trans rfl
  have gone : ∀ a ∈ [Axis.x, .y, .r],
      ((({ s with table := s.table.estop } : State).haltWatch .table).axis a).mirrored false := by
    intro a ha
    refine AxisRec.mirrored_of_control e ?_
    fin_cases ha
    · exact s.table.x.estop_mirrored
    · exact s.table.y.estop_mirrored
    · exact s.table.r.estop_mirrored
  have line : (({ s with table := s.table.estop } : State).haltWatch .table).line = .stopped :=
    (State.line_of_control e).trans h.2
  have told := (lost.congr e).noticeAll (State.working_of_stopped line) gone
  exact ⟨told, State.noticeHomed_line (State.noticeHomed_line (State.noticeHomed_line line _ _) _ _) _ _⟩

theorem Stopping.estopSpan (h : Stopping halting s) : Stopping halting s.estopSpan :=
  h.loseAxis (v := { s.head.span.estop with target := none }) ⟨rfl, rfl, fun _ => rfl⟩
    ((State.haltWatch_control _ _).trans (by simp only [State.control, State.setAxis]))

theorem Stopping.estopHead (h : Stopping false s) : Stopping false s.estopHead := by
  have failed : Stopping false (s.haltHead.failHeld .lost false) := h.haltHead.congr (State.failHeld_control _ _ _)
  exact (failed.turnHead (hd := { (s.haltHead.failHeld .lost false).head with
    state := (s.haltHead.failHeld .lost false).head.state.estop }) rfl rfl
    ((State.haltWatch_control _ _).trans (by simp only [State.control]))).estopSpan

theorem State.releaseFires_unread (s : State) : Unread s s.releaseFires := by
  constructor
  · simp only [State.core, State.releaseFires]
  · simp only [State.control, State.releaseFires]

theorem Governed.estopArrive (h : Governed [] false s) : Governed [] false s.estopArrive := by
  have noted : Governed [] false (State.setCondition { s with inputs := { s.inputs with estop := true } } .estop true) :=
    h.congr rfl
  have stopped := ((noted.raise_stop .estop {}).congr (State.interruptIndex_control _)).congr
    (State.releaseFires_unread _).control
  exact stopped.estopTable.estopHead.1

/-! ## Homing (R121, R141) -/

theorem AxisRec.startHoming_mirrored (a : AxisRec) (made : Bool) : (a.startHoming made).mirrored false := by
  refine ⟨rfl, ?_, nofun⟩
  simp only [AxisRec.startHoming]
  cases made <;> rfl

theorem Governed.startHomings (h : Governed lost halting s) (l : List Axis) :
    Governed (l.reverse ++ lost) halting (l.foldl State.startHoming s) := by
  induction l generalizing s lost with
  | nil => exact h
  | cons a l ih =>
    have next := ih (s := s.startHoming a) (lost := a :: lost) (h.loseAxis (AxisRec.startHoming_mirrored _ _))
    simpa using next

/-- The line need not be told of an axis that it holds for not homed. -/
theorem Governed.untold (h : Governed lost halting s) {rest : List Axis} (sub : ∀ a ∈ rest, a ∈ lost)
    (known : ∀ a ∈ lost, a ∉ rest → s.alarms.line.homed a = false) : Governed rest halting s where
  program := h.program
  halted := h.halted
  axis a := by
    have told := h.axis a
    by_cases inLost : a ∈ lost
    · rw [if_pos inLost] at told
      split
      · exact told
      · next out => rw [known a inLost out]; exact told
    · rw [if_neg inLost] at told
      rw [if_neg fun inRest => inLost (sub a inRest)]
      exact told
  agrees := h.agrees
  allows := h.allows

theorem State.freePick_mem {α : Type} (s : State) (a : α) (l : List α) : s.freePick a l ∈ a :: l := by
  unfold State.freePick
  split
  · exact .head _
  · next l _ =>
    rw [List.getD_eq_getElem _ _ (by
      unfold State.freeOrder
      simpa using Nat.mod_lt _ (Nat.succ_pos _))]
    exact List.getElem_mem _

theorem Governed.noticeUnhomed (h : Governed lost halting s) (idle : s.working = false) {l : List Axis} (all : ∀ a ∈ lost, a ∈ l)
    (gone : ∀ a ∈ l, (s.axis a).mirrored false) : Governed [] halting (s.noticeUnhomed l) := by
  cases l with
  | nil =>
    rw [List.eq_nil_iff_forall_not_mem.mpr fun a ha => nomatch all a ha] at h
    exact h
  | cons a l =>
    have drawn : Governed lost halting (if l.isEmpty then s else s.draw) := by
      split
      · exact h
      · exact h.congr s.draw_control
    have same : (if l.isEmpty then s else s.draw).control = s.control := by split <;> simp
    have told := drawn.noticeAll (l := s.freePick a l :: a :: l)
      ((State.working_congr (by rw [State.control_line same])).trans idle) fun b hb =>
      AxisRec.mirrored_of_control same (gone b (by
        rcases List.mem_cons.mp hb with rfl | hb
        · exact s.freePick_mem a l
        · exact hb))
    rw [List.filter_eq_nil_iff.mpr fun b hb => by
      simpa using fun _ other => (List.mem_cons.mp (all b hb)).resolve_left other] at told
    exact told

end

end Sys2Proof.Machine

/-! PROOFS. Recovery, RUN, HOLD, HOME, the program store and a reset keep the laws of the line (R46, R121, R154, R187 to R192, R195). -/

namespace Sys2Proof.Machine

section
variable {s t u : State} {lost : List Axis} {halting : Bool}

/-! ## Recovery (R154, R192) -/

/-- The state as the head's notice that it leaves HALTED finds it in RECOVERING. -/
def State.unhalted (s : State) : State :=
  { s with alarms := { s.alarms with line := { s.alarms.line with headHalted := false } } }

theorem State.noticeHalted_control (recovering : s.line = .recovering) :
    (s.noticeHalted false).control = s.unhalted.control := by
  unfold State.noticeHalted
  split
  · next told =>
    have same : ({ s.alarms.line with headHalted := false } : Line) = s.alarms.line := by rw [← told]
    simp only [State.control, State.unhalted, same]
  · exact congrArg State.control (State.judgeReadiness_line (s := s.unhalted) (.inr recovering) .head)

theorem State.leaveHalted_control (recovering : s.line = .recovering) (airLost : Bool) :
    (s.leaveHalted airLost).control = s.unhalted.control := by
  unfold State.leaveHalted
  split
  · exact State.noticeHalted_control recovering
  · exact (State.noticeHalted_control (s := s.jawAirOn) recovering).trans (by simp only [State.control, State.unhalted, State.jawAirOn])

/-- The recovery of the head's part has just begun. -/
def State.headRecovering (s : State) : Prop :=
  s.line = .recovering ∧ ∀ r, s.alarms.line.recovery = some r → r.head = false

/-- A HALTED head that takes up its course in RECOVERING, whatever its state. -/
theorem Governed.resume (h : Governed lost halting s) (begun : s.headRecovering) {hd : Head}
    (e : t.control = ({ s.unhalted with head := hd } : State).control) (live : hd.state.isHalted = false)
    (span : hd.span.bare = s.head.span.bare) : Governed lost halting t := by
  refine Governed.congr (s := { s.unhalted with head := hd }) ?_ e
  refine ⟨h.program, live.symm, fun a => ?_, ?_, fun _ => Line.allows_of_recovering begun.1 begun.2 _⟩
  · have told : s.unhalted.alarms.line.homed a = s.alarms.line.homed a := by cases a <;> rfl
    dsimp only
    rw [told]
    refine AxisRec.mirrored_congr ?_ (h.axis a)
    cases a with
    | span => exact span
    | x => rfl
    | y => rfl
    | r => rfl
  · show Line.agrees { s.alarms.line with headHalted := false }
    unfold Line.agrees
    rw [show ({ s.alarms.line with headHalted := false } : Line).state = .recovering from begun.1]
    trivial

theorem Governed.resumeFrom (h : Governed [] false s) (begun : s.headRecovering) (e : u.control = s.unhalted.control)
    (src : HaltedFrom) : Governed [] false (u.resumeFrom src) := by
  have span : u.head.span.bare = s.head.span.bare := State.control_span (s := s.unhalted) e
  have enter {v : State} {st : HeadState} (live : st.isHalted = false)
      (entered : v.control = ({ u with head := { u.head with state := st } } : State).control) : Governed [] false v :=
    h.resume begun (hd := { s.head with state := st }) (entered.trans (State.control_withHead e rfl span)) live rfl
  have rise : Governed [] false u.enterRise := enter rfl u.enterRise_control
  have discard : Governed [] false u.enterDiscard :=
    enter (st := .discard) rfl ((State.startWatch_control _ _ _).trans (by simp only [State.control]))
  have form : Governed [] false u.enterForm :=
    enter (st := .form) rfl ((State.startWatch_control _ _ _).trans (by simp only [State.control]))
  have wait : Governed [] false u.enterWait := enter (st := .wait) rfl (State.stopWatch_control _ _)
  have pick : Governed [] false u.enterPick :=
    enter (st := .pickStroke) rfl ((State.startWatch_control _ _ _).trans (by simp only [State.control]))
  have spanWait : Governed [] false ({ u with head := { u.head with state := .pickSpanWait } } : State) := enter rfl rfl
  unfold State.resumeFrom
  split
  case h_6 => exact pick
  case h_7 =>
    unfold State.resumeSpanWait
    dsimp only
    split
    · split
      · next homed => exact spanWait.congr (State.startSpan_control spanWait.mirrored (Bool.and_eq_true _ _ ▸ homed).1 _)
      · exact spanWait
    · exact spanWait
  case h_8 =>
    split
    · exact discard
    · exact form
  case h_9 =>
    split
    · exact discard
    · exact wait
  case h_10 => exact discard
  all_goals exact rise

theorem Governed.recoverHead (h : Governed [] false s) (begun : s.headRecovering) : Governed [] false s.recoverHead := by
  unfold State.recoverHead
  split
  · next src airLost _ =>
    have left := State.leaveHalted_control begun.1 airLost
    dsimp only
    split
    · exact h.resumeFrom begun left .reset
    · exact h.resumeFrom begun left src
  · exact h.congr (State.withHead_control rfl rfl)

theorem State.control_withLine (e : t.control = u.control) (l : Line) :
    ({ t with alarms := { t.alarms with line := l } } : State).control
      = ({ u with alarms := { u.alarms with line := l } } : State).control := by
  have store := State.control_store e
  have state := State.control_headState e
  have x : t.table.x.bare = u.table.x.bare := congrArg (·.table.x) e
  have y : t.table.y.bare = u.table.y.bare := congrArg (·.table.y) e
  have r : t.table.r.bare = u.table.r.bare := congrArg (·.table.r) e
  have span := State.control_span e
  simp only [State.control, store, state, x, y, r, span]

/-- The line record as recovery begins (R192). -/
def Line.recoveryBegun (l : Line) : Line :=
  { l.entered .recovering with recovery := some { chain := false, head := false } }

theorem Governed.beginRecovery (h : Governed [] false s)
    (e : t.control = ({ s with alarms := { s.alarms with line := s.alarms.line.recoveryBegun } } : State).control) :
    Governed [] false t ∧ t.headRecovering := by
  refine ⟨(h.withLine (l := s.alarms.line.recoveryBegun) rfl rfl (fun a => by cases a <;> rfl) trivial fun _ =>
    Line.allows_of_recovering rfl (fun r hr => ?_) _).congr e, (State.line_of_control e).trans rfl, fun r hr => ?_⟩
  · rw [← Option.some.inj hr]
  · rw [State.control_line e] at hr
    rw [← Option.some.inj hr]

theorem Governed.enterRecovering (h : Governed [] false s) : Governed [] false s.enterRecovering := by
  have entered := s.setLine_control .recovering (.command .recover)
  unfold State.enterRecovering
  dsimp only
  rw [State.control_line entered]
  obtain ⟨governed, begun⟩ := h.beginRecovery ((State.recoverIndex_control _).trans
    ((State.control_withLine entered s.alarms.line.recoveryBegun).trans rfl))
  exact governed.recoverHead begun

/-! ## RUN and HOLD (R188, R189) -/

theorem Governed.restartKept (h : Governed [] false s) (work : s.working = true) : Governed [] false s.restartKept := by
  have ready := h.ready_of_working work
  have homed : s.table.homed = true := by
    have axis a : (s.axis a).homed = true := by
      rw [← (h.axis a).1]
      simpa using Line.homed_of_ready ready a
    have x : s.table.x.homed = true := axis .x
    have y : s.table.y.homed = true := axis .y
    have r : s.table.r.homed = true := axis .r
    simp only [Table.homed, x, y, r, Bool.and_self]
  unfold State.restartKept
  split
  · exact h
  · split
    · exact h.startMove homed _
    · split
      · exact h.startMove homed _
      · exact h.congr (State.withTable_control rfl rfl rfl)
    · exact h.congr (State.withTable_control rfl rfl rfl)

theorem Governed.enterRunning (h : Governed [] false s) (able : s.line = .ready ∨ s.line = .held) :
    Governed [] false s.enterRunning := by
  have ready : s.alarms.line.ready = true := by
    have agrees := h.agrees
    unfold Line.agrees at agrees
    rcases able with e | e <;> rw [State.line] at e <;> rw [e] at agrees <;> exact agrees
  have running : Governed [] false (s.setLine .running (.command .run)) :=
    h.setLine ready fun _ => Line.allows_of_working (.inl rfl) _
  have work : (s.setLine .running (.command .run)).working = true := State.working_iff.mpr
    (.inl ((State.line_of_control (s.setLine_control .running (.command .run))).trans rfl))
  exact (((running.restartKept work).congr (State.restartConveyor_control _)).congr
    (State.startMeasurement_control _)).congr (State.fireAll_control _)

theorem Governed.enterHolding (h : Governed [] false s) (run : s.line = .running) : Governed [] false s.enterHolding := by
  have holding : Governed [] false (s.setLine .holding (.command .hold)) :=
    h.setLine (h.ready_of_working (State.working_iff.mpr (.inl run))) fun _ => Line.allows_of_working (.inr rfl) _
  exact (holding.congr (State.startMeasurement_control _)).congr (State.fireAll_control _)

/-! ## The program store (R46, R47, R56, R59) -/

theorem Governed.setStore (h : Governed [] false s) {st : Store} {o : ProgramOutcome}
    (idle : st.isLoaded = false → s.programs.store.isLoaded = true → s.working = false) :
    Governed [] false (s.setStore st o) := by
  have axis a : ((({ s with programs := { store := st, outcome := o } } : State)).axis a).mirrored
      (if a ∈ [] then false else s.alarms.line.homed a) := by
    have same : ({ s with programs := { store := st, outcome := o } } : State).axis a = s.axis a := by cases a <;> rfl
    rw [same]
    exact h.axis a
  unfold State.setStore State.noticeProgram
  split
  · next told => exact ⟨told, h.halted, axis, h.agrees, h.allows⟩
  · next untold =>
    refine Governed.of_judgeReadiness (s := { s with
      programs := { store := st, outcome := o }
      alarms := { s.alarms with line := { s.alarms.line with programLoaded := st.isLoaded } } }) rfl h.halted
      (fun a => ?_) ?_ (fun strict => Line.allows_congr rfl rfl (h.allows strict)) _
    · have same : ({ s.alarms.line with programLoaded := st.isLoaded } : Line).homed a = s.alarms.line.homed a := by
        cases a <;> rfl
      dsimp only
      rw [same]
      have seen := axis a
      cases a <;> exact seen
    · refine (State.working_congr (s := s) rfl).trans ?_
      cases loaded : st.isLoaded
      · exact idle loaded (by rw [← h.program]; simpa [loaded] using untold)
      · rw [Bool.eq_false_iff]
        intro work
        have ready := h.ready_of_working work
        simp only [Line.ready, Bool.and_eq_true] at ready
        exact untold (by simp only [loaded]; exact ready.1.1.1.1.1)

theorem Governed.withStore (h : Governed [] false s) {p : Programs} (e : p.store.isLoaded = s.programs.store.isLoaded) :
    Governed [] false { s with programs := p } where
  program := h.program.trans e.symm
  halted := h.halted
  axis a := by
    have same : ({ s with programs := p } : State).axis a = s.axis a := by cases a <;> rfl
    rw [same]
    exact h.axis a
  agrees := h.agrees
  allows := h.allows

/-! ## HOME (R121, R141) -/

theorem State.homeTable_control (s : State) (n : Nat) : (s.homeTable n).control = s.control := by
  unfold State.homeTable
  split
  · exact (State.startWatch_control _ _ _).trans (State.withTable_control rfl rfl rfl)
  · rfl

theorem State.homeSpan_control (s : State) (n : Nat) : (s.homeSpan n).control = s.control := by
  unfold State.homeSpan
  split
  · exact (State.startWatch_control _ _ _).trans (State.withHead_control rfl rfl)
  · rfl

theorem State.startHomings_alarms (l : List Axis) (s : State) : (l.foldl State.startHoming s).alarms = s.alarms := by
  induction l generalizing s with
  | nil => rfl
  | cons a l ih => exact (ih _).trans (State.setAxis_alarms _ _ _)

theorem Governed.home (h : Governed [] false s) (idle : s.working = false) (axes : Nat) :
    Governed [] false (((((namedAxes axes).foldl State.startHoming s).homeTable axes).homeSpan axes).noticeUnhomed
      ((namedAxes axes).filter fun a => (s.axis a).homed)) := by
  have started := h.startHomings (namedAxes axes)
  rw [List.append_nil] at started
  have alarms := State.startHomings_alarms (namedAxes axes) s
  have control := (State.homeSpan_control (((namedAxes axes).foldl State.startHoming s).homeTable axes) axes).trans
    (State.homeTable_control _ axes)
  have lost : Governed ((namedAxes axes).filter fun a => (s.axis a).homed) false
      ((namedAxes axes).foldl State.startHoming s) := by
    refine started.untold (fun a ha => by simpa using (List.mem_filter.mp ha).1) fun a ha out => ?_
    have named : a ∈ namedAxes axes := by simpa using ha
    have told := (h.axis a).1
    rw [if_neg List.not_mem_nil] at told
    rw [alarms, told, Bool.eq_false_iff]
    exact fun homed => out (List.mem_filter.mpr ⟨named, homed⟩)
  have line : ((((namedAxes axes).foldl State.startHoming s).homeTable axes).homeSpan axes).alarms.line = s.alarms.line := by
    rw [State.control_line control, alarms]
  refine (lost.congr control).noticeUnhomed ((State.working_congr (by rw [line])).trans idle) (fun _ ha => ha) fun a ha => ?_
  refine AxisRec.mirrored_of_control control ?_
  have told := started.axis a
  rwa [if_pos (by simpa using (List.mem_filter.mp ha).1)] at told

/-! ## The geometry, the steps and a reset -/

theorem AxisRec.unposition_bare (a : AxisRec) : a.unposition.bare = a.bare := by
  unfold AxisRec.unposition
  split
  · next e => simp only [AxisRec.bare, e, AxisState.bare]
  · rfl

theorem State.withGeometry_control (s : State) (g : Geometry) :
    ({ s with table := s.table.withGeometry g } : State).control = s.control :=
  State.withTable_control (AxisRec.unposition_bare _) (AxisRec.unposition_bare _) (AxisRec.unposition_bare _)

theorem governed_afterReset (cause : ResetCause) (lv : Levels) (drawn : Nat) (pending : List Instr) :
    Governed [] false (State.afterReset cause lv drawn pending) where
  program := rfl
  halted := by
    simp only [State.afterReset, Alarms.afterReset, Head.afterReset]
    cases lv.pins.headTop <;> rfl
  axis a := by cases a <;> exact ⟨rfl, rfl, fun _ => rfl⟩
  agrees := rfl
  allows _ := by
    simp only [State.afterReset, Head.afterReset]
    split
    · exact .inl rfl
    · exact .inr (.inr rfl)

theorem governed_resetWith (s : State) (cause : ResetCause) (lv : Levels) : Governed [] false (s.resetWith cause lv) := by
  have fresh := governed_afterReset cause lv s.drawn s.pending
  unfold State.resetWith
  dsimp only
  split
  · exact fresh.estopArrive.judge
  · exact fresh

end

end Sys2Proof.Machine

/-! PROOFS. The form of the pockets, the places of the strokes and what the head holds: the rules for one pocket and for the head
(R2, R12, R19, R110, R139, R142, R153). -/

namespace Sys2Proof.Machine

/-- Where a pocket that holds a component for an entry may stand; with `land` 1 the pocket that an index has just brought to 84 has
still to be checked (R12, R15). -/
def Pocket.standsAt (land : Nat) (r : Pocket) (q : Fin 128) : Prop :=
  match r.state with
  | .fired => q.val ≤ 83 + land
  | .loaded => 84 ≤ q.val ∧ q.val ≤ 88
  | .verified => 88 ≤ q.val ∧ q.val ≤ 96
  | _ => True

/-- The pocket of a measurement: LOADED with its entry and its station, or since orphaned (R109, R110). -/
def Pocket.measuredFor (r : Pocket) (m : Measurement) : Prop :=
  r.state = .orphan ∨ r.state = .loaded ∧ r.entry = some m.entry ∧ r.station = some m.station

/-- What a head may hold in its state (R139, R147, R152, R153). -/
def Head.fits (h : Head) : Prop :=
  (h.held.isSome = true → h.unowned = false ∧ h.state.mayHold = true)
    ∧ (h.unowned = true → h.state.mayHoldUnowned = true)
    ∧ (h.state = .clinch ↔ ∃ d, h.clinch = .stroking d)

/-- The laws of the pocket records, of the places of the strokes and of the head. -/
structure Mech (land : Nat) (s : State) : Prop where
  formed : PocketLaw s
  stands : ∀ p, (s.pocket p).standsAt land (s.positionOf p)
  flight : ∀ m, s.verifier.flight = some m → s.positionOf m.pocket = 88 ∧ (s.pocket m.pocket).measuredFor m
  picked : s.head.state.picking = true →
    (s.pocket (s.pocketAt 96)).state = .verified ∨ (s.pocket (s.pocketAt 96)).state = .orphan
  still : s.chain.index ≠ .idle → s.verifier.flight = none ∧ s.head.state.picking = false
    ∧ (s.pocket (s.pocketAt 88)).state ≠ .loaded ∧ (s.pocket (s.pocketAt 96)).state ≠ .verified
  fits : s.head.fits

theorem holdLaw_iff {s : State} : HoldLaw s ↔ s.head.fits ∧ s.alarms.line.allows s.head.state :=
  ⟨fun ⟨held, unowned, allows, clinch⟩ => ⟨⟨held, unowned, clinch⟩, allows⟩,
    fun ⟨⟨held, unowned, clinch⟩, allows⟩ => ⟨held, unowned, allows, clinch⟩⟩

theorem mech_iff {s : State} : Mech 0 s ↔ PocketLaw s ∧ StandLaw s ∧ s.head.fits :=
  ⟨fun h => ⟨h.formed, ⟨h.stands, h.flight, h.picked, h.still⟩, h.fits⟩,
    fun ⟨formed, ⟨stands, flight, picked, still⟩, fits⟩ => ⟨formed, stands, flight, picked, still, fits⟩⟩

/-- The parts of the state that these laws read. -/
def State.mech (s : State) : State :=
  { State.reset with
    chain := { Chain.afterReset with c := s.chain.c, pockets := s.chain.pockets, index := s.chain.index }
    verifier := { Verifier.afterReset with flight := s.verifier.flight }
    head := { Head.afterReset true with
      state := s.head.state, held := s.head.held, unowned := s.head.unowned, clinch := s.head.clinch } }

section
variable {s t : State} {land : Nat}

theorem State.mech_of_core (e : t.core = s.core) : t.mech = s.mech :=
  (congrArg State.mech e : t.core.mech = s.core.mech)

theorem Mech.congr (h : Mech land s) (e : t.mech = s.mech) : Mech land t := by
  have of : Mech land s.mech := ⟨h.formed, h.stands, h.flight, h.picked, h.still, h.fits⟩
  rw [← e] at of
  exact ⟨of.formed, of.stands, of.flight, of.picked, of.still, of.fits⟩

theorem Mech.ofCore (h : Mech land s) (e : t.core = s.core) : Mech land t := h.congr (State.mech_of_core e)

@[simp] theorem State.startWatch_mech (s : State) (w : WatchId) (n : Nat) : (s.startWatch w n).mech = s.mech :=
  State.mech_of_core (s.startWatch_core w n)

@[simp] theorem State.stopWatch_mech (s : State) (w : WatchId) : (s.stopWatch w).mech = s.mech :=
  State.mech_of_core (s.stopWatch_core w)

@[simp] theorem State.haltWatch_mech (s : State) (w : WatchId) : (s.haltWatch w).mech = s.mech :=
  State.mech_of_core (s.haltWatch_core w)

@[simp] theorem State.raise_warn_mech (s : State) (src : Source) (x : Context) : (s.raise src .warn x).mech = s.mech :=
  State.mech_of_core (s.raise_warn_core src x)

/-! ## One pocket -/

theorem Mech.setPocket (h : Mech land s) {p : Fin 128} {r : Pocket} (formed : r.formed)
    (stands : r.standsAt land (s.positionOf p))
    (flight : ∀ m, s.verifier.flight = some m → m.pocket = p → r.measuredFor m)
    (picked : s.head.state.picking = true → p = s.pocketAt 96 → r.state = .verified ∨ r.state = .orphan)
    (still : s.chain.index ≠ .idle → (p = s.pocketAt 88 → r.state ≠ .loaded) ∧ (p = s.pocketAt 96 → r.state ≠ .verified)) :
    Mech land (s.setPocket p r) where
  formed q := by
    rw [State.pocket_setPocket_eq]
    split
    · exact formed
    · exact h.formed q
  stands q := by
    rw [State.pocket_setPocket_eq, State.setPocket_positionOf]
    split
    · next e => rw [e]; exact stands
    · exact h.stands q
  flight m hm := by
    obtain ⟨at88, measured⟩ := h.flight m hm
    refine ⟨at88, ?_⟩
    rw [State.pocket_setPocket_eq]
    split
    · next e => exact flight m hm e
    · exact measured
  picked hp := by
    rw [State.setPocket_pocketAt, State.pocket_setPocket_eq]
    split
    · next e => exact picked hp e.symm
    · exact h.picked hp
  still moving := by
    obtain ⟨idle, off, at88, at96⟩ := h.still moving
    refine ⟨idle, off, ?_, ?_⟩
    · rw [State.setPocket_pocketAt, State.pocket_setPocket_eq]
      split
      · next e => exact (still moving).1 e.symm
      · exact at88
    · rw [State.setPocket_pocketAt, State.pocket_setPocket_eq]
      split
      · next e => exact (still moving).2 e.symm
      · exact at96
  fits := h.fits

/-- A state in which a pocket holds no component that a stroke or a measurement is for. -/
def PocketState.free : PocketState → Bool
  | .fired | .loaded | .verified => false
  | _ => true

theorem Pocket.standsAt_of_free {r : Pocket} (h : r.state.free = true) (q : Fin 128) : r.standsAt land q := by
  unfold Pocket.standsAt
  cases e : r.state <;> simp_all [PocketState.free]

/-- A pocket that no measurement and no pick is for is given a record that holds nothing for them. -/
theorem Mech.setPocket_free (h : Mech land s) {p : Fin 128} {r : Pocket} (formed : r.formed) (free : r.state.free = true)
    (out : r.state = .orphan ∨ (s.positionOf p ≠ 88 ∧ s.positionOf p ≠ 96)
      ∨ ((s.pocket p).state ≠ .loaded ∧ (s.pocket p).state ≠ .verified ∧ (s.pocket p).state ≠ .orphan)) :
    Mech land (s.setPocket p r) := by
  refine h.setPocket formed (Pocket.standsAt_of_free free _) (fun m hm e => ?_) (fun hp e => ?_) fun _ => ⟨fun _ => ?_, fun _ => ?_⟩
  · subst e
    obtain ⟨at88, orphan | ⟨loaded, -⟩⟩ := h.flight m hm
    · rcases out with o | ⟨off, -⟩ | ⟨-, -, o⟩
      · exact .inl o
      · exact absurd at88 off
      · exact absurd orphan o
    · rcases out with o | ⟨off, -⟩ | ⟨o, -⟩
      · exact .inl o
      · exact absurd at88 off
      · exact absurd loaded o
  · subst e
    rcases out with o | ⟨-, off⟩ | ⟨-, v, o⟩
    · exact .inr o
    · exact absurd (s.positionOf_pocketAt 96) off
    · exact ((h.picked hp).elim (absurd · v) (absurd · o))
  · intro e; rw [e] at free; cases free
  · intro e; rw [e] at free; cases free

theorem Pocket.emptied_formed : Pocket.emptied.formed := ⟨rfl, rfl, rfl, rfl⟩

theorem Pocket.orphaned_formed (r : Pocket) {c : PocketCause} (h : c ≠ .verify) : (r.orphaned c).formed := by
  refine ⟨rfl, rfl, ?_⟩
  cases c
  · exact absurd rfl h
  · exact .inl rfl
  · exact .inr (.inl rfl)
  · exact .inr (.inr rfl)

/-- The entry and the station of a pocket that holds a component for an entry. -/
theorem Pocket.formed.holds {r : Pocket} (h : r.formed)
    (holding : r.state = .assigned ∨ r.state = .fired ∨ r.state = .loaded ∨ r.state = .verified) :
    r.entry.isSome = true ∧ r.station.isSome = true := by
  unfold Pocket.formed at h
  rcases holding with e | e | e | e <;> rw [e] at h <;> exact ⟨h.1, h.2.1⟩

theorem Pocket.formed.unjudged {r : Pocket} (h : r.formed) (e : r.state = .assigned ∨ r.state = .fired ∨ r.state = .loaded) :
    r.result = none ∧ r.cause = none := by
  unfold Pocket.formed at h
  rcases e with e | e | e <;> rw [e] at h <;> exact h.2.2

/-! ## The head (R139) -/

theorem Mech.setHead (h : Mech land s) {hd : Head} (e : t.mech = ({ s with head := hd } : State).mech) (fits : hd.fits)
    (picking : hd.state.picking = true → s.head.state.picking = true ∨ s.chain.index = .idle ∧ s.verifiedAtTransfer = true) :
    Mech land t := by
  refine Mech.congr (s := { s with head := hd }) ?_ e
  refine ⟨h.formed, h.stands, h.flight, fun hp => ?_, fun moving => ?_, fits⟩
  · rcases picking hp with old | ⟨-, verified⟩
    · exact h.picked old
    · exact .inl (of_decide_eq_true verified)
  · obtain ⟨idle, off, rest⟩ := h.still moving
    refine ⟨idle, ?_, rest⟩
    rw [Bool.eq_false_iff]
    intro hp
    rcases picking hp with old | ⟨idle, -⟩
    · rw [off] at old; cases old
    · exact absurd idle moving

theorem Head.fits.not_clinch {h : Head} (fits : h.fits) (st : h.state ≠ .clinch) : ∀ d, h.clinch ≠ .stroking d :=
  fun d e => st (fits.2.2.mpr ⟨d, e⟩)

/-- A head outside CLINCH passes to another state outside CLINCH. -/
theorem Head.fits.move {h k : Head} (fits : h.fits) (old : h.state ≠ .clinch) (new : k.state ≠ .clinch)
    (clinch : ∀ d, k.clinch = .stroking d → h.clinch = .stroking d)
    (hold : k.held.isSome = true → k.unowned = false ∧ k.state.mayHold = true)
    (unowned : k.unowned = true → k.state.mayHoldUnowned = true) : k.fits :=
  ⟨hold, unowned, fun e => absurd e new, fun ⟨d, e⟩ => absurd (clinch d e) (fits.not_clinch old d)⟩

/-- A head in a state that holds nothing is empty. -/
theorem Head.fits.empty {h : Head} (fits : h.fits) (hold : h.state.mayHold = false) (unowned : h.state.mayHoldUnowned = false) :
    h.held = none ∧ h.unowned = false := by
  constructor
  · cases e : h.held with
    | none => rfl
    | some d =>
      have := (fits.1 (by rw [e]; rfl)).2
      rw [hold] at this
      cases this
  · rw [Bool.eq_false_iff]
    intro e
    rw [fits.2.1 e] at unowned
    cases unowned

/-- An empty head passes to any state outside CLINCH. -/
theorem Head.fits.pass {h k : Head} (fits : h.fits) (old : h.state ≠ .clinch) (empty : h.held = none ∧ h.unowned = false)
    (held : k.held = h.held) (unowned : k.unowned = h.unowned) (new : k.state ≠ .clinch)
    (clinch : ∀ d, k.clinch = .stroking d → h.clinch = .stroking d) : k.fits :=
  fits.move old new clinch (fun e => by rw [held, empty.1] at e; cases e) fun e => by rw [unowned, empty.2] at e; cases e

end

end Sys2Proof.Machine

/-! PROOFS. The operations keep the form of the pockets, the places of the strokes and what the head holds. -/

namespace Sys2Proof.Machine

section
variable {s t u : State} {land : Nat}

/-! ## The entry into STOPPED and the raises (R116, R152, R190) -/

@[simp] theorem State.noticeOutcome_mech (s : State) (ref : EntryRef) (o : HeadOutcome) :
    (s.noticeOutcome ref o).mech = s.mech := by
  unfold State.noticeOutcome
  split
  · rfl
  · split <;> rfl

/-- The head when the entry it held is given up. -/
def Head.emptied (h : Head) : Head := { h with held := none }

theorem State.mech_withHead (e : t.mech = u.mech) {a b : Head} (state : a.state = b.state) (held : a.held = b.held)
    (unowned : a.unowned = b.unowned) (clinch : a.clinch = b.clinch) :
    ({ t with head := a } : State).mech = ({ u with head := b } : State).mech := by
  have c : t.chain.c = u.chain.c := (congrArg (fun v : State => v.chain.c) e :)
  have pockets : t.chain.pockets = u.chain.pockets := (congrArg (fun v : State => v.chain.pockets) e :)
  have index : t.chain.index = u.chain.index := (congrArg (fun v : State => v.chain.index) e :)
  have flight : t.verifier.flight = u.verifier.flight := (congrArg (fun v : State => v.verifier.flight) e :)
  simp only [State.mech, c, pockets, index, flight, state, held, unowned, clinch]

theorem State.noticeOutcome_withHead (s : State) (ref : EntryRef) (o : HeadOutcome) {a : Head} (state : a.state = s.head.state)
    (held : a.held = none) (unowned : a.unowned = s.head.unowned) (clinch : a.clinch = s.head.clinch) :
    ({ s.noticeOutcome ref o with head := a } : State).mech = ({ s with head := s.head.emptied } : State).mech :=
  State.mech_withHead (s.noticeOutcome_mech ref o) state held unowned clinch

theorem State.withEmptied_of_none (h : s.head.held = none) : ({ s with head := s.head.emptied } : State).mech = s.mech := by
  simp only [State.mech, Head.emptied, h]

theorem State.failHeld_mech (s : State) (c : EntryCause) (m : Bool) :
    (s.failHeld c m).mech = ({ s with head := s.head.emptied } : State).mech := by
  unfold State.failHeld
  split
  · next none_ => exact (State.withEmptied_of_none none_).symm
  · have head := s.noticeOutcome_head
    exact s.noticeOutcome_withHead _ _ (by rw [head]) rfl (by rw [head]) (by rw [head])

theorem State.insertHeld_mech (s : State) : s.insertHeld.mech = ({ s with head := s.head.emptied } : State).mech := by
  unfold State.insertHeld
  split
  · next none_ => exact (State.withEmptied_of_none none_).symm
  · have head := s.noticeOutcome_head
    exact s.noticeOutcome_withHead _ _ (by rw [head]) rfl (by rw [head]) (by rw [head])

theorem State.unclinchHeld_mech (s : State) : s.unclinchHeld.mech = ({ s with head := s.head.emptied } : State).mech := by
  unfold State.unclinchHeld
  split
  · next none_ => exact (State.withEmptied_of_none none_).symm
  · have head := s.noticeOutcome_head
    exact s.noticeOutcome_withHead _ _ (by rw [head]) rfl (by rw [head]) (by rw [head])

/-- A measurement that ends, whatever comes of its pocket. -/
theorem Mech.landed (h : Mech land s) {v : Verifier} (none_ : v.flight = none) : Mech land { s with verifier := v } where
  formed := h.formed
  stands := h.stands
  flight m hm := by rw [show v.flight = some m from hm] at none_; cases none_
  picked := h.picked
  still moving := ⟨none_, (h.still moving).2⟩
  fits := h.fits

theorem Mech.abandonMeasurement (h : Mech land s) : Mech land s.abandonMeasurement := by
  unfold State.abandonMeasurement
  split
  · exact h
  · exact h.landed rfl

theorem ClinchState.halted_not_stroking (c : ClinchState) (d : ClinchDir) : c.halted ≠ .stroking d := by
  cases c <;> nofun

/-- The head as a halt leaves it before it is HALTED: the component of a drive or a clinch is given up (R152). -/
def Head.given (h : Head) : Head :=
  match h.state with
  | .drive .. | .clinch => h.emptied
  | _ => h

theorem State.giveUpHeld_mech (s : State) : s.giveUpHeld.mech = ({ s with head := s.head.given } : State).mech := by
  unfold State.giveUpHeld
  split
  · next e =>
    rw [State.failHeld_mech, show s.head.given = s.head.emptied by simp only [Head.given, e]]
  · next e =>
    rw [State.failHeld_mech, show s.head.given = s.head.emptied by simp only [Head.given, e]]
  · next drive clinch =>
    rw [show s.head.given = s.head by unfold Head.given; split <;> simp_all]

theorem Head.fits.halted {h : Head} (fits : h.fits) (live : h.state.isHalted = false) : h.given.halted.fits := by
  obtain ⟨hold, unowned, -⟩ := fits
  refine ⟨fun held => ?_, fun un => ?_, ⟨nofun, fun ⟨d, e⟩ => absurd e (ClinchState.halted_not_stroking _ d)⟩⟩
  all_goals
    cases st : h.state <;>
      simp_all [Head.given, Head.halted, Head.emptied, HeadState.mayHold, HeadState.mayHoldUnowned, HeadState.haltSource,
        HeadState.isHalted]

theorem Head.given_state (h : Head) : h.given.state = h.state := by
  unfold Head.given
  split <;> rfl

theorem HeadState.picking_halted {st : HeadState} (h : (HeadState.halted st.haltSource false).picking = true)
    (live : st.isHalted = false) : st.picking = true := by
  cases st <;> first | rfl | cases h | cases live

theorem State.haltHead_mech (live : s.head.state.isHalted = false) :
    s.haltHead.mech = ({ s with head := s.head.given.halted } : State).mech := by
  have given := s.giveUpHeld_mech
  have state : s.giveUpHeld.head.state = s.head.given.state := (congrArg (fun v : State => v.head.state) given :)
  have held : s.giveUpHeld.head.held = s.head.given.held := (congrArg (fun v : State => v.head.held) given :)
  have unowned : s.giveUpHeld.head.unowned = s.head.given.unowned := (congrArg (fun v : State => v.head.unowned) given :)
  have clinch : s.giveUpHeld.head.clinch = s.head.given.clinch := (congrArg (fun v : State => v.head.clinch) given :)
  unfold State.haltHead
  rw [live]
  refine (State.mech_of_core ((State.noticeHalted_core _ _).trans (State.haltWatch_core _ _))).trans
    (State.mech_withHead given ?_ held unowned ?_)
  · simp only [Head.halted, state]
  · simp only [Head.halted, clinch]

theorem Mech.haltHead (h : Mech land s) : Mech land s.haltHead := by
  by_cases live : s.head.state.isHalted = true
  · rw [show s.haltHead = s by unfold State.haltHead; rw [if_pos live]]
    exact h
  · rw [Bool.not_eq_true] at live
    refine h.setHead (State.haltHead_mech live) (h.fits.halted live) fun picking => .inl ?_
    simp only [Head.halted, Head.given_state] at picking
    exact HeadState.picking_halted picking live

theorem State.haltConveyor_mech (s : State) : s.haltConveyor.mech = s.mech := by
  unfold State.haltConveyor
  split
  · exact State.haltWatch_mech _ _
  · exact State.haltWatch_mech _ _
  · rfl

theorem Mech.enterStopped (h : Mech land s) (c : LineCause) : Mech land (s.enterStopped c) := by
  have stopped := (((h.ofCore (s.setLine_core .stopped c)).abandonMeasurement.ofCore (State.stopTable_core _)).haltHead)
  exact (stopped.ofCore (State.stopSpan_core _)).congr (State.haltConveyor_mech _)

theorem Mech.raise (h : Mech land s) (src : Source) (c : AlarmClass) (x : Context) : Mech land (s.raise src c x) := by
  have recorded := h.ofCore (s.recordRaise_core src c x)
  unfold State.raise
  split
  · exact h
  · unfold State.lineEffect
    split
    · exact recorded.ofCore (State.setLine_core _ _ _)
    · split
      · exact recorded.enterStopped _
      · exact recorded

/-! ## The stations and the fall-back (R33 to R35, R69, R114) -/

theorem State.fallBack_mech (s : State) (ref : EntryRef) (c : Bool) (k : Option (Fin 80)) :
    (s.fallBack ref c k).mech = s.mech := by
  unfold State.fallBack State.raiseMissed
  split
  · split
    · split
      · exact State.raise_warn_mech _ _ _
      · split
        · exact State.raise_warn_mech _ _ _
        · rfl
    · rfl
  · rfl

theorem Mech.withdraw (h : Mech land s) (p : Fin 128) : Mech land (s.withdraw p) := by
  unfold State.withdraw
  dsimp only
  split
  · next assigned =>
    have emptied : Mech land (s.setPocket p Pocket.emptied) := h.setPocket_free Pocket.emptied_formed rfl
      (.inr (.inr (by rw [assigned]; exact ⟨nofun, nofun, nofun⟩)))
    split
    · exact emptied.ofCore (State.lowerPending_unread _ _).core
    · exact emptied
  · exact h

theorem Mech.withdrawAt (h : Mech land s) (k : Fin 80) (q : Fin 128) : Mech land (s.withdrawAt k q) := by
  unfold State.withdrawAt
  dsimp only
  split
  · split
    · exact (h.withdraw _).congr (State.fallBack_mech _ _ _ _)
    · exact h.withdraw _
  · exact h

theorem foldl_keeps {α : Type} {P : State → Prop} {f : State → α → State} (hf : ∀ s a, P s → P (f s a)) (l : List α) {s : State}
    (h : P s) : P (l.foldl f s) := by
  induction l generalizing s with
  | nil => exact h
  | cons a l ih => exact ih (hf s a h)

theorem Mech.takeOut (h : Mech land s) (k : Fin 80) (new : StationState) :
    Mech land ((s.moveStation k new).withdrawStation k) :=
  foldl_keeps (fun _ q hu => hu.withdrawAt k q) _ (h.ofCore (s.moveStation_unread k new).core)

theorem Mech.quarantine (h : Mech land s) (k : Fin 80) : Mech land (s.quarantine k) := by
  unfold State.quarantine
  refine Mech.raise ?_ _ _ _
  split
  case h_5 => exact h
  all_goals exact h.takeOut k _

theorem Mech.misfeed (h : Mech land s) (k : Fin 80) : Mech land (s.misfeed k) := by
  unfold State.misfeed
  split
  case h_6 => exact h
  case h_4 | h_5 => exact h.raise _ _ _
  all_goals exact (h.takeOut k _).raise _ _ _

theorem Mech.failNotice (h : Mech land s) (k : Fin 80) : Mech land (s.failNotice k) := by
  unfold State.failNotice
  dsimp only
  split
  · exact Mech.quarantine (h.ofCore (State.setStation_core _ _ _)) k
  · exact h.ofCore (State.setStation_core _ _ _)

theorem Mech.orphan (h : Mech land s) (p : Fin 128) {c : PocketCause} (cause : c ≠ .verify) : Mech land (s.orphan p c) := by
  have orphaned : Mech land (s.setPocket p ((s.pocket p).orphaned c)) :=
    h.setPocket_free (Pocket.orphaned_formed _ cause) rfl (.inl rfl)
  unfold State.orphan
  dsimp only
  split
  · exact orphaned
  · exact orphaned
  · exact orphaned
  · exact h

theorem Mech.releasePocket (h : Mech land s) (e : Entry) {c : PocketCause} (cause : c ≠ .verify) :
    Mech land (s.releasePocket e c) := by
  unfold State.releasePocket
  split
  · exact h
  · split
    · exact h.withdraw _
    · exact h.orphan _ cause
    · exact h.orphan _ cause
    · exact h.orphan _ cause
    · exact h

/-! ## Measurements (R110 to R115) -/

theorem Mech.verify (h : Mech land s) {p : Fin 128} {r : Pocket} (at88 : s.positionOf p = 88) (flight : s.verifier.flight = none)
    (new : r.state = .verified) (formed : r.formed) : Mech land (s.setPocket p r) := by
  refine h.setPocket formed ?_ (fun m hm => ?_) (fun _ _ => .inl new) fun moving => ⟨fun _ => ?_, fun e => ?_⟩
  · unfold Pocket.standsAt
    rw [new, at88]
    exact ⟨by decide, by decide⟩
  · rw [flight] at hm
    cases hm
  · rw [new]; nofun
  · rw [e, s.positionOf_pocketAt] at at88
    exact absurd at88 (by decide)

theorem Pocket.verified_formed {r : Pocket} (h : r.formed) (loaded : r.state = .loaded) {v : Option VerifyResult}
    (pass : v = none ∨ v = some .pass) : ({ r with state := .verified, result := v } : Pocket).formed := by
  obtain ⟨entry, station⟩ := h.holds (.inr (.inr (.inl loaded)))
  exact ⟨entry, station, pass, (h.unjudged (.inr (.inr loaded))).2⟩

theorem Mech.rejectPocket (h : Mech land s) {m : Measurement} (at88 : s.positionOf m.pocket = 88)
    (flight : s.verifier.flight = none) {r : VerifyResult} (failed : r ≠ .pass) (reading : Option Nat) :
    Mech land (s.rejectPocket m r reading) := by
  refine inOrder3_keeps (P := Mech land) _ (fun u hu => hu.congr (u.fallBack_mech _ _ _)) (fun u hu => hu.failNotice _)
    (fun u hu => hu.raise _ _ _) ?_
  refine Mech.ofCore (s := s.setPocket m.pocket { state := .rejected, result := some r, cause := some .verify }) ?_
    (State.draw_core _)
  refine h.setPocket ⟨rfl, rfl, ⟨r, rfl, failed⟩, rfl⟩ trivial (fun m' hm => ?_) (fun _ e => ?_) fun _ => ⟨nofun, nofun⟩
  · rw [flight] at hm
    cases hm
  · rw [e, s.positionOf_pocketAt] at at88
    exact absurd at88 (by decide)

theorem Mech.judgePocket (h : Mech land s) {m : Measurement} (at88 : s.positionOf m.pocket = 88)
    (flight : s.verifier.flight = none) (r : VerifyResult) (reading : Option Nat) : Mech land (s.judgePocket m r reading) := by
  unfold State.judgePocket
  split
  · next loaded =>
    exact (h.verify at88 flight (r := { s.pocket m.pocket with state := .verified, result := some .pass }) rfl
      (Pocket.verified_formed (h.formed _) loaded (.inr rfl))).congr rfl
  · next loaded notPass => exact h.rejectPocket at88 flight (notPass) reading
  · next orphan =>
    refine h.setPocket_free ?_ ?_ (.inl orphan)
    · have formed := h.formed m.pocket
      unfold Pocket.formed at formed ⊢
      rw [orphan] at formed ⊢
      exact formed
    · dsimp only
      rw [orphan]
      rfl
  · exact h

theorem Mech.completeMeasurement (h : Mech land s) (forward reverse : Nat) :
    Mech land (s.completeMeasurement forward reverse) := by
  unfold State.completeMeasurement
  split
  · exact h
  · next m flight =>
    split
    · have released : Mech land (State.recordJudgement { s with verifier := s.verifier.release }
        { pocket := m.pocket, entry := m.entry, station := m.station, code := m.code, kind := m.kind,
          result := .measured (m.judge forward reverse), reading := readingOf (m.judge forward reverse) forward reverse,
          time := s.clock }) := h.landed rfl
      exact released.judgePocket (h.flight m flight).1 rfl _ _
    · exact h

theorem Mech.passUnmeasured (h : Mech land s) (flight : s.verifier.flight = none)
    (loaded : (s.pocket (s.pocketAt 88)).state = .loaded) (ref : EntryRef) (k : Fin 80) (code : Nat) (kind : VerifyKind) :
    Mech land (s.passUnmeasured (s.pocketAt 88) ref k code kind) :=
  (h.verify (s.positionOf_pocketAt 88) flight (r := { s.pocket (s.pocketAt 88) with state := .verified, result := none })
    rfl (Pocket.verified_formed (h.formed _) loaded (.inl rfl))).congr rfl

theorem Mech.startMeasurement (h : Mech land s) : Mech land s.startMeasurement := by
  unfold State.startMeasurement
  dsimp only
  split
  · next due =>
    rw [Bool.and_eq_true, Option.isNone_iff_eq_none] at due
    obtain ⟨wanted, flight⟩ := due
    have loaded := State.verifyWanted_loaded wanted
    split
    · next ref k entry station =>
      split
      · exact h
      · split
        · exact h.passUnmeasured flight loaded _ _ _ _
        · split
          · exact h.passUnmeasured flight loaded _ _ _ _
          · exact
              { formed := h.formed
                stands := h.stands
                flight := fun m hm => by
                  cases Option.some.inj hm
                  exact ⟨s.positionOf_pocketAt 88, .inr ⟨loaded, entry, station⟩⟩
                picked := h.picked
                still := fun moving => absurd loaded (h.still moving).2.2.1
                fits := h.fits }
    · exact h
  · exact h

/-! ## Assignment and fires (R4, R88, R90) -/

theorem Mech.assign (h : Mech land s) {p : Fin 128} (ref : EntryRef) (src : CandidateSource) (k : Fin 80)
    (empty : (s.pocket p).state = .empty) : Mech land (s.assign p ref src k) := by
  have assigned : Mech land (s.setPocket p { state := .assigned, entry := some ref, station := some k }) :=
    h.setPocket_free ⟨rfl, rfl, rfl, rfl⟩ rfl (.inr (.inr (by rw [empty]; exact ⟨nofun, nofun, nofun⟩)))
  refine assigned.congr ?_
  unfold State.assign State.fence
  dsimp only
  split <;> split <;> split <;> rfl

theorem Mech.requestAssignment (h : Mech land s) (p : Fin 128) : Mech land (s.requestAssignment p) := by
  rcases s.requestAssignment_cases p with same | ⟨ref, src, k, e, -, -, -, empty⟩
  · rw [same]; exact h
  · rw [e]; exact h.assign ref src k empty

theorem Mech.fireInto (h : Mech land s) (k : Fin 80) {p : Fin 128} (at_ : s.positionOf p = stationPosition k)
    (assigned : (s.pocket p).state = .assigned) : Mech land (s.fireInto k p) := by
  have fired : Mech land (s.setPocket p { s.pocket p with state := .fired }) := by
    obtain ⟨entry, station⟩ := (h.formed p).holds (.inl assigned)
    obtain ⟨result, cause⟩ := (h.formed p).unjudged (.inl assigned)
    refine h.setPocket ⟨entry, station, result, cause⟩ ?_ (fun m hm e => ?_) (fun hp e => ?_) fun _ => ⟨nofun, nofun⟩
    · rw [at_]
      show k.val + 1 ≤ 83 + land
      omega
    · subst e
      obtain ⟨-, orphan | ⟨loaded, -⟩⟩ := h.flight m hm
      · rw [assigned] at orphan; cases orphan
      · rw [assigned] at loaded; cases loaded
    · subst e
      rcases h.picked hp with v | o
      · rw [assigned] at v; cases v
      · rw [assigned] at o; cases o
  refine fired.congr ?_
  unfold State.fireInto
  dsimp only
  split
  · rw [State.raise_warn_mech]
    split <;> rfl
  · split <;> rfl

theorem Mech.fire (h : Mech land s) (k : Fin 80) : Mech land (s.fire k) := by
  unfold State.fire
  split
  · next due =>
    exact h.fireInto k (s.positionOf_pocketAt _) (Pocket.names_iff.mp (State.fireDue_names due)).1
  · exact h

theorem Mech.fireAll (h : Mech land s) : Mech land s.fireAll :=
  State.fireAll_keeps (P := Mech land) (fun _ k hu => hu.fire k) s h

end

end Sys2Proof.Machine

/-! PROOFS. The chain's index, the gate, the head's strokes, recovery and a reset keep the form of the pockets, the places of the
strokes and what the head holds (R9, R11 to R19, R139 to R154). -/

namespace Sys2Proof.Machine

section
variable {s t u : State} {land : Nat}

/-! ## The index and the presence check (R11 to R16) -/

theorem Mech.misfeedNotices (h : Mech land s) (v : Pocket) : Mech land (s.misfeedNotices v) :=
  State.misfeedNotices_keeps (P := Mech land) (fun u hu => hu.ofCore u.draw_core) (fun _ k _ hu => hu.misfeed k)
    (fun u ref _ hu => hu.congr (u.fallBack_mech ref true v.station)) h

/-- Once the pocket at 84 is not FIRED, no pocket is FIRED beyond 83. -/
theorem Mech.checked (h : Mech 1 s) (passed : (s.pocket (s.pocketAt 84)).state ≠ .fired) : Mech 0 s where
  formed := h.formed
  stands p := by
    have stands := h.stands p
    unfold Pocket.standsAt at stands ⊢
    split at stands
    · next fired =>
      refine Nat.le_of_lt_succ (Nat.lt_of_le_of_ne stands fun e => passed ?_)
      rw [← State.eq_pocketAt (Fin.ext e : s.positionOf p = 84)]
      exact fired
    · exact stands
    · exact stands
    · trivial
  flight := h.flight
  picked := h.picked
  still := h.still
  fits := h.fits

theorem State.elim_mech {α : Type} {o : Option α} {f : α → State} (hf : ∀ a, (f a).mech = u.mech) :
    (o.elim u f).mech = u.mech := by
  cases o with
  | none => rfl
  | some a => exact hf a

theorem Mech.checkPresence (h : Mech 1 s) (seen : Bool) : Mech 0 (s.checkPresence seen) := by
  have at84 := s.positionOf_pocketAt 84
  have away : s.positionOf (s.pocketAt 84) ≠ 88 ∧ s.positionOf (s.pocketAt 84) ≠ 96 := by
    rw [at84]; decide
  have cleared {r : Pocket} (formed : r.formed) (free : r.state.free = true) : Mech 0 (s.setPocket (s.pocketAt 84) r) := by
    refine (h.setPocket_free formed free (.inr (.inl away))).checked ?_
    rw [State.setPocket_pocketAt, State.pocket_setPocket]
    intro e
    rw [e] at free
    cases free
  unfold State.checkPresence
  dsimp only
  split
  · next fired =>
    obtain ⟨entry, station⟩ := (h.formed (s.pocketAt 84)).holds (.inr (.inl fired))
    obtain ⟨result, cause⟩ := (h.formed (s.pocketAt 84)).unjudged (.inr (.inl fired))
    have loaded : Mech 0 (s.setPocket (s.pocketAt 84) { s.pocket (s.pocketAt 84) with state := .loaded }) := by
      refine (h.setPocket (p := s.pocketAt 84) (r := { s.pocket (s.pocketAt 84) with state := .loaded })
        ⟨entry, station, result, cause⟩ ?_ (fun m hm e => ?_) (fun _ e => ?_)
        fun _ => ⟨fun e => ?_, nofun⟩).checked ?_
      · rw [at84]
        exact ⟨by decide, by decide⟩
      · refine absurd (h.flight m hm).1 ?_
        rw [e]
        exact away.1
      · rw [e, s.positionOf_pocketAt] at away
        exact absurd rfl away.2
      · rw [e, s.positionOf_pocketAt] at away
        exact absurd rfl away.1
      · rw [State.setPocket_pocketAt, State.pocket_setPocket]
        nofun
    exact loaded.congr (State.elim_mech fun _ => rfl)
  · exact (cleared Pocket.emptied_formed rfl).misfeedNotices _
  · exact ((cleared (r := { state := .orphan, cause := some .stray }) (by exact ⟨rfl, rfl, .inr (.inr rfl)⟩) rfl).congr
      (State.raise_warn_mech _ _ _)).ofCore (State.draw_core _)
  · exact cleared Pocket.emptied_formed rfl
  · next notSeen notMissed _ _ =>
    exact h.checked fun fired => (Bool.eq_false_or_eq_true _).elim (notSeen fired) (notMissed fired)

theorem Mech.checkAndFire (h : Mech 1 s) (seen : Bool) : Mech 0 (s.checkAndFire seen) := by
  have drawn := h.ofCore s.draw_core
  unfold State.checkAndFire
  split
  · exact drawn.fireAll.checkPresence seen
  · exact (drawn.checkPresence seen).fireAll

/-- An index completion carries every pocket one position on. -/
theorem Mech.advanced (h : Mech 0 s) (moving : s.chain.index = .inFlight) : Mech 1 s.advanced := by
  obtain ⟨idle, off, at88, at96⟩ := h.still (by rw [moving]; nofun)
  refine ⟨h.formed, fun p => ?_, fun m hm => ?_, fun picking => ?_, fun moves => absurd rfl moves, h.fits⟩
  · have stands := h.stands p
    have next : (s.positionOf p).val < 127 → (s.advanced.positionOf p).val = (s.positionOf p).val + 1 :=
      State.advanced_position_val
    have here : s.advanced.pocket p = s.pocket p := rfl
    rw [here]
    unfold Pocket.standsAt at stands ⊢
    split at stands
    · rw [next (by omega)]
      omega
    · next loaded =>
      have : (s.positionOf p).val ≠ 88 := fun e =>
        at88 (by rw [← State.eq_pocketAt (Fin.ext e : s.positionOf p = 88)]; exact loaded)
      rw [next (by omega)]
      omega
    · next verified =>
      have : (s.positionOf p).val ≠ 96 := fun e =>
        at96 (by rw [← State.eq_pocketAt (Fin.ext e : s.positionOf p = 96)]; exact verified)
      rw [next (by omega)]
      omega
    · trivial
  · rw [show s.verifier.flight = some m from hm] at idle
    cases idle
  · rw [show s.head.state.picking = true from picking] at off
    cases off

theorem Mech.completeIndex (h : Mech 0 s) (seen : Bool) : Mech 0 (s.completeIndex seen) := by
  rw [State.completeIndex_eq]
  split
  · next moving => exact (((h.advanced moving).ofCore (State.stopWatch_core _ _)).checkAndFire seen).startMeasurement
  · exact h

/-- An index that moves, or is interrupted, moves as before. -/
theorem Mech.moves (h : Mech land s) (moving : s.chain.index ≠ .idle) {i : IndexState} {d : Bool} :
    Mech land { s with chain := { s.chain with index := i, indexDrive := d } } :=
  ⟨h.formed, h.stands, h.flight, h.picked, fun _ => h.still moving, h.fits⟩

theorem Mech.requestIndex (h : Mech land s) {lost : List Axis} {halting : Bool} (g : Governed lost halting s) :
    Mech land s.requestIndex := by
  unfold State.requestIndex
  split
  · next due =>
    obtain ⟨run, -, -, flight, at88, at96, stroke⟩ := State.indexDue_clear due
    have live := g.not_halted (State.working_iff.mpr (.inl run))
    have off : s.head.state.picking = false := by
      revert stroke live
      cases s.head.state <;> simp [HeadState.picking, HeadState.isHalted]
    refine Mech.congr (s := { s with chain := { s.chain with index := .inFlight, indexDrive := true } })
      ⟨h.formed, h.stands, h.flight, h.picked, fun _ => ⟨flight, off, at88, at96⟩, h.fits⟩ (State.startWatch_mech _ _ _)
  · exact h

theorem Mech.interruptIndex (h : Mech land s) : Mech land s.interruptIndex := by
  unfold State.interruptIndex
  split
  · next moving => exact (h.moves (by rw [moving]; nofun)).congr (State.haltWatch_mech _ _)
  · exact h

theorem Mech.recoverIndex (h : Mech land s) : Mech land s.recoverIndex := by
  unfold State.recoverIndex
  split
  · next halted => exact (h.moves (by rw [halted]; nofun)).congr (State.startWatch_mech _ _ _)
  · exact h

/-! ## The gate (R17, R18) -/

theorem State.startStroke_mech (s : State) : s.startStroke.mech = s.mech := by
  unfold State.startStroke
  split
  · exact State.startWatch_mech _ _ _
  · rfl

theorem Mech.completeStroke (h : Mech land s) (place : PlaceLaw s) : Mech land s.completeStroke := by
  unfold State.completeStroke
  split
  · exact h
  · next p stroke =>
    have at_ := ((placeLaw_iff.mp place).2 p stroke).2
    have emptied : Mech land (s.setPocket p Pocket.emptied) := by
      refine h.setPocket_free Pocket.emptied_formed rfl (.inr (.inl ?_))
      rcases at_ with e | ⟨e, -⟩ <;> rw [e] <;> decide
    exact emptied.congr (State.stopWatch_mech _ _)

/-! ## The head's strokes (R142 to R149) -/

/-- A head that passes from one state outside CLINCH to another, and picks only if it did. -/
theorem Mech.passHead (h : Mech land s) {hd : Head} (e : t.mech = ({ s with head := hd } : State).mech) (fits : hd.fits)
    (off : hd.state.picking = false) : Mech land t :=
  h.setHead e fits fun on => by rw [off] at on; cases on

theorem State.judgeSpan_core (s : State) : s.judgeSpan.core = s.core := by
  unfold State.judgeSpan
  dsimp only
  split
  · split
    · exact (State.stopWatch_core _ _).trans ((State.emit_core _ _ _).trans (State.setAxis_core _ _ _))
    · rfl
  · split
    · exact State.stopWatch_core _ _
    · rfl
  · split
    · rfl
    · exact State.setAxis_core _ _ _
  · rfl

theorem State.startSpan_core (s : State) (n : Int) : (s.startSpan n).core = s.core := State.startWatch_core _ _ _

theorem State.judgeSpanMove_core (s : State) : s.judgeSpanMove.core = s.core := by
  unfold State.judgeSpanMove
  dsimp only
  split
  · rfl
  · split
    · rw [State.judgeSpan_core, State.startSpan_core]
    · rfl

theorem Mech.judgeForm (h : Mech land s) : Mech land s.judgeForm := by
  unfold State.judgeForm
  split <;> split
  · next hd held due =>
    simp only [Bool.and_eq_true, decide_eq_true_eq] at due
    have owned := (h.fits.1 (by rw [held]; rfl)).1
    refine h.passHead (State.startWatch_mech _ _ _) ?_ rfl
    exact h.fits.move (by rw [due.1]; nofun) nofun (fun _ e => e) (fun _ => ⟨owned, rfl⟩) fun un => by
      rw [show s.head.unowned = true from un] at owned; cases owned
  · exact h
  · next held due =>
    simp only [State.discardInCourse, Bool.and_eq_true, decide_eq_true_eq] at due
    refine h.passHead (State.startWatch_mech _ _ _) ?_ rfl
    exact h.fits.move (by rw [due.1.1.2]; nofun) nofun (fun _ e => e)
      (fun some_ => by rw [show s.head.held = none from held] at some_; cases some_) fun _ => rfl
  · exact h

theorem Mech.judgeRise (h : Mech land s) : Mech land s.judgeRise := by
  unfold State.judgeRise
  split
  · next due =>
    simp only [Bool.and_eq_true, decide_eq_true_eq] at due
    refine h.passHead (State.stopWatch_mech _ _) ?_ rfl
    exact h.fits.pass (by rw [due.1.1]; nofun) (h.fits.empty (by rw [due.1.1]; rfl) (by rw [due.1.1]; rfl)) rfl rfl nofun
      fun _ e => e
  · exact h

theorem Mech.judgeDiscard (h : Mech land s) : Mech land s.judgeDiscard := by
  unfold State.judgeDiscard
  split
  · next due =>
    simp only [Bool.and_eq_true, decide_eq_true_eq] at due
    refine h.passHead (State.stopWatch_mech _ _) ?_ rfl
    exact h.fits.move (by rw [due.1]; nofun) nofun (fun _ e => e) (fun held => by
      have may := (h.fits.1 held).2
      rw [due.1] at may
      cases may) nofun
  · exact h

theorem Mech.judgeHead (h : Mech land s) : Mech land s.judgeHead :=
  ((h.ofCore s.judgeSpanMove_core).judgeForm.judgeRise).judgeDiscard

theorem Mech.startDiscard (h : Mech land s) : Mech land s.startDiscard := by
  unfold State.startDiscard
  split
  · next due =>
    simp only [State.discardDue, Bool.and_eq_true, decide_eq_true_eq] at due
    refine h.passHead (State.startWatch_mech _ _ _) ?_ rfl
    exact h.fits.move (by rw [due.1.2]; nofun) nofun (fun _ e => e) (fun held => by
      rw [(h.fits.1 held).1] at due
      cases due.2) fun _ => rfl
  · exact h

theorem Mech.startPick (h : Mech land s) : Mech land s.startPick := by
  unfold State.startPick
  split
  · next due =>
    simp only [State.pickDue, Bool.and_eq_true, decide_eq_true_eq] at due
    obtain ⟨⟨-, top⟩, verified⟩ := due
    have idle : s.chain.index = .idle := by
      by_contra moving
      exact (h.still moving).2.2.2 (of_decide_eq_true verified)
    refine Mech.congr (s := s.enterPick) ?_ rfl
    refine h.setHead (State.startWatch_mech _ _ _) ?_ fun _ => .inr ⟨idle, verified⟩
    exact h.fits.pass (by rw [top]; nofun) (h.fits.empty (by rw [top]; rfl) (by rw [top]; rfl)) rfl rfl nofun fun _ e => e
  · exact h

theorem Mech.startDrive (h : Mech land s) : Mech land s.startDrive := by
  unfold State.startDrive
  split
  · next due =>
    simp only [State.driveDue, Bool.and_eq_true, decide_eq_true_eq] at due
    obtain ⟨⟨⟨-, wait⟩, -⟩, ready⟩ := due
    have held : s.head.held.isSome = true := by
      cases e : s.head.held with
      | none => rw [e] at ready; cases ready
      | some _ => rfl
    have owned := (h.fits.1 held).1
    refine h.passHead (State.startWatch_mech _ _ _) ?_ rfl
    exact h.fits.move (by rw [wait]; nofun) nofun (fun _ e => e) (fun _ => ⟨owned, rfl⟩) fun un => by
      rw [show s.head.unowned = true from un] at owned; cases owned
  · exact h

/-- The head gives its entry up and returns (R146 to R148). -/
theorem Mech.enterRise (h : Mech land s) (owned : s.head.unowned = false)
    (e : t.mech = ({ s with head := s.head.emptied } : State).mech) : Mech land t.enterRise := by
  have head : t.head.held = none ∧ t.head.unowned = s.head.unowned ∧ t.head.clinch = s.head.clinch :=
    ⟨(congrArg (fun v : State => v.head.held) e :), (congrArg (fun v : State => v.head.unowned) e :),
      (congrArg (fun v : State => v.head.clinch) e :)⟩
  refine h.passHead (hd := { s.head.emptied with state := .rise, clinch := s.head.clinch.retract }) ?_ ?_ rfl
  · refine (State.startWatch_mech _ _ _).trans ?_
    exact State.mech_withHead e rfl head.1 head.2.1 (by simp only [head.2.2])
  · refine ⟨nofun, fun un => ?_, nofun, fun ⟨d, stroking⟩ => ?_⟩
    · rw [show s.head.unowned = true from un] at owned
      cases owned
    · revert stroking
      simp only
      cases s.head.clinch <;> nofun

theorem Mech.completePick (h : Mech land s) : Mech land s.completePick := by
  unfold State.completePick
  dsimp only
  split
  · next picking =>
    have empty := h.fits.empty (by rw [picking]; rfl) (by rw [picking]; rfl)
    have outside : s.head.state ≠ .clinch := by rw [picking]; nofun
    -- the pocket is emptied in the event in which the head leaves the stroke, so the two are taken together
    have taken {hd : Head} (fits : hd.fits) (off : hd.state.picking = false) :
        Mech land (({ s with head := hd } : State).setPocket (s.pocketAt 96) Pocket.emptied) := by
      have passed := h.passHead (t := { s with head := hd }) rfl fits off
      refine passed.setPocket Pocket.emptied_formed trivial (fun m hm e => ?_) (fun on => ?_) fun _ => ⟨nofun, nofun⟩
      · have at88 := (h.flight m hm).1
        rw [e, s.positionOf_pocketAt] at at88
        exact absurd at88 (by decide)
      · rw [show hd.state.picking = true from on] at off
        cases off
    generalize e2 : State.stopWatch _ WatchId.head = u
    have head : u.head.held = s.head.held ∧ u.head.unowned = s.head.unowned ∧ u.head.clinch = s.head.clinch := by
      rw [← e2]
      simp
    have e : u.mech = (s.setPocket (s.pocketAt 96) Pocket.emptied).mech := by
      rw [← e2, State.stopWatch_mech]
      rfl
    have unowned : Mech land u.takeUnowned := by
      have leave {st : HeadState} (new : st ≠ .clinch) (may : st.mayHoldUnowned = true) (off : st.picking = false)
          {v : State} (ev : v.mech = ({ u with head := { u.head with unowned := true, state := st } } : State).mech) :
          Mech land v := by
        refine (taken (hd := { s.head with unowned := true, state := st }) ?_ off).congr
          (ev.trans (State.mech_withHead e rfl head.1 rfl head.2.2))
        exact h.fits.move outside new (fun _ e => e) (fun held => by simp [empty.1] at held) fun _ => may
      unfold State.takeUnowned
      dsimp only
      split
      · exact leave (st := .discard) nofun rfl rfl (State.startWatch_mech _ _ _)
      · exact leave (st := .wait) nofun rfl rfl (State.stopWatch_mech _ _)
    split
    · next ref _ =>
      unfold State.takeEntry
      split
      · exact unowned
      · next en _ =>
        refine (taken (hd := { s.head with state := .pickSpanWait, held := some (heldOf ref en) }) ?_ rfl).congr
          (State.mech_withHead (t := u.modifyEntry ref Entry.toHead) e rfl rfl head.2.1 head.2.2)
        exact h.fits.move outside nofun (fun _ e => e) (fun _ => ⟨empty.2, rfl⟩) fun un => by
          rw [show s.head.unowned = true from un] at empty
          cases empty.2
    · exact unowned
  · exact h

theorem Mech.completeForm (h : Mech land s) : Mech land s.completeForm := by
  unfold State.completeForm
  split
  · next form =>
    refine h.passHead (State.stopWatch_mech _ _) ?_ rfl
    exact h.fits.move (by rw [form]; nofun) nofun (fun _ e => e) (fun held => ⟨(h.fits.1 held).1, rfl⟩) fun _ => rfl
  · exact h

theorem Mech.seeLead (h : Mech land s) (side : Side) :
    Mech land { s with head := { s.head with state := s.head.state.see side } } := by
  have same : (s.head.state.see side).mayHold = s.head.state.mayHold
      ∧ (s.head.state.see side).mayHoldUnowned = s.head.state.mayHoldUnowned
      ∧ ((s.head.state.see side) = .clinch ↔ s.head.state = .clinch)
      ∧ (s.head.state.see side).picking = s.head.state.picking := by
    cases s.head.state <;> cases side <;> simp [HeadState.see, HeadState.mayHold, HeadState.mayHoldUnowned, HeadState.picking]
  obtain ⟨hold, unowned, clinch, picking⟩ := same
  refine h.setHead rfl ⟨fun held => ?_, fun un => ?_, ?_⟩ fun on => .inl (picking ▸ on)
  · rw [hold]; exact h.fits.1 held
  · rw [unowned]; exact h.fits.2.1 un
  · exact clinch.trans h.fits.2.2

theorem Mech.owned (h : Mech land s) (st : s.head.state.mayHoldUnowned = false) : s.head.unowned = false := by
  rw [Bool.eq_false_iff]
  intro un
  rw [h.fits.2.1 un] at st
  cases st

theorem Mech.completeDrive (h : Mech land s) : Mech land s.completeDrive := by
  unfold State.completeDrive
  split
  · next driving held =>
    have owned := h.owned (by rw [driving]; rfl)
    split
    · split
      · next dir _ =>
        refine h.passHead (State.startWatch_mech _ _ _) ⟨fun _ => ⟨owned, rfl⟩, fun un => ?_, fun _ => ⟨dir, rfl⟩, fun _ => rfl⟩ rfl
        rw [show s.head.unowned = true from un] at owned
        cases owned
      · exact h.enterRise owned s.insertHeld_mech
    · exact (h.enterRise owned (s.failHeld_mech _ _)).raise _ _ _
  · exact h

theorem Mech.completeClinch (h : Mech land s) (left right : Bool) : Mech land (s.completeClinch left right) := by
  unfold State.completeClinch
  dsimp only
  split
  · next clinching =>
    have owned := h.owned (by rw [clinching]; rfl)
    split
    · exact h.enterRise owned (State.insertHeld_mech _)
    · refine Mech.raise ?_ _ _ _
      exact h.enterRise owned (State.unclinchHeld_mech _)
  · exact h

theorem Mech.clinchHomeArrival (h : Mech land s) (made : Bool) : Mech land (s.clinchHomeArrival made) := by
  unfold State.clinchHomeArrival
  dsimp only
  split
  · next due =>
    refine h.setHead (hd := { s.head with clinch := .retracted }) rfl ⟨h.fits.1, h.fits.2.1, fun st => ?_, nofun⟩ .inl
    obtain ⟨d, e⟩ := h.fits.2.2.mp st
    rw [show s.head.clinch = .retracting from due.2] at e
    cases e
  · exact h.congr rfl

theorem Mech.headTopArrival (h : Mech land s) (made : Bool) : Mech land (s.headTopArrival made) := by
  unfold State.headTopArrival
  dsimp only
  split
  · next halted =>
    refine h.passHead ((State.mech_of_core (State.noticeHalted_core _ _)).trans (State.stopWatch_mech _ _)) ?_ rfl
    exact h.fits.pass (by rw [halted]; nofun) (h.fits.empty (by rw [halted]; rfl) (by rw [halted]; rfl)) rfl rfl nofun
      fun _ e => e
  · exact h.congr rfl

/-- The discard notice turns the entry held into an unowned component, in a head at rest or HALTED (R75, R149). -/
theorem Mech.discardNotice (h : Mech land s) (rest : s.head.state = .top ∨ s.head.state = .wait ∨ s.head.state.isHalted = true)
    (id : Nat) : Mech land (s.discardNotice id) := by
  unfold State.discardNotice
  split
  · next hd held =>
    split
    · have may := (h.fits.1 (by rw [held]; rfl)).2
      refine h.setHead rfl ⟨nofun, fun _ => ?_, h.fits.2.2⟩ .inl
      show s.head.state.mayHoldUnowned = true
      revert rest may
      cases s.head.state with
      | halted src air => cases src <;> cases air <;> simp [HeadState.mayHold, HeadState.mayHoldUnowned]
      | _ => simp [HeadState.mayHold, HeadState.mayHoldUnowned, HeadState.isHalted]
    · exact h
  · exact h

end

end Sys2Proof.Machine

/-! PROOFS. The boards and the transport: the lookups of boards and entries, and the rules of the transport record (R63, R76, R77,
R156 to R164). -/

namespace Sys2Proof.Machine

section
variable {s t : State}

/-! ## Lookups (R63, R66) -/

theorem State.board?_eq_some {id : Nat} {b : Board} (h : s.board? id = some b) :
    b.id = id ∧ (s.boards.active = some b ∨ s.boards.next = some b) := by
  have inNext (e : (s.boards.next.filter fun c => c.id = id) = some b) : b.id = id ∧ s.boards.next = some b := by
    obtain ⟨found, same⟩ := Option.filter_eq_some_iff.mp e
    exact ⟨of_decide_eq_true same, found⟩
  unfold State.board? at h
  split at h
  · next a active =>
    split at h
    · next same =>
      cases Option.some.inj h
      exact ⟨same, .inl active⟩
    · exact ⟨(inNext h).1, .inr (inNext h).2⟩
  · exact ⟨(inNext h).1, .inr (inNext h).2⟩

theorem State.board?_active {a : Board} (h : s.boards.active = some a) : s.board? a.id = some a := by
  simp [State.board?, h]

theorem State.board?_modifyBoard (s : State) (id i : Nat) {f : Board → Board} (keeps : ∀ b, (f b).id = b.id) :
    (s.modifyBoard id f).board? i = (s.board? i).map fun b => if b.id = id then f b else b := by
  have same : ∀ b : Board, ((fun b => if b.id = id then f b else b) b).id = b.id := by
    intro b
    dsimp only
    split
    · exact keeps b
    · rfl
  unfold State.board? State.modifyBoard
  generalize (fun b : Board => if b.id = id then f b else b) = g at same ⊢
  cases s.boards.active with
  | none =>
    cases s.boards.next with
    | none => rfl
    | some n => by_cases e : n.id = i <;> simp [Option.filter, same, e]
  | some a =>
    by_cases ea : a.id = i
    · simp [same a, ea]
    · cases s.boards.next with
      | none => simp [same a, ea]
      | some n => by_cases e : n.id = i <;> simp [Option.filter, same a, same n, ea, e]

theorem State.entry?_eq_some {ref : EntryRef} {e : Entry} (h : s.entry? ref = some e) :
    ∃ b, s.board? ref.board = some b ∧ b.entries[ref.index]? = some e := Option.bind_eq_some_iff.mp h

theorem State.entry?_modifyEntry (s : State) (ref r : EntryRef) (f : Entry → Entry) :
    (s.modifyEntry ref f).entry? r = if r = ref then (s.entry? r).map f else s.entry? r := by
  unfold State.entry? State.modifyEntry
  rw [State.board?_modifyBoard s ref.board r.board (f := fun b => { b with entries := b.entries.modify ref.index f })
    fun _ => rfl]
  cases found : s.board? r.board with
  | none => simp
  | some b =>
    have id := (State.board?_eq_some found).1
    simp only [Option.map_some, Option.bind_some]
    by_cases sameBoard : r.board = ref.board
    · rw [if_pos (id.trans sameBoard), List.getElem?_modify]
      by_cases sameIndex : ref.index = r.index
      · have e : r = ref := by cases r; cases ref; simp_all
        simp only [if_pos sameIndex, if_pos e]
        rfl
      · have e : r ≠ ref := fun e => sameIndex (by rw [e])
        simp only [if_neg sameIndex, if_neg e]
        simp
    · have e : r ≠ ref := fun e => sameBoard (by rw [e])
      rw [if_neg fun e' => sameBoard (id.symm.trans e'), if_neg e]

/-! ## The transport record (R156, R162) -/

/-- The phase of the board that the transport in a state works for (R76). -/
def TransportState.serves : TransportState → Phase → Bool
  | .empty, .waiting | .entryWait, .waiting => true
  | .entryRun .., .loading | .clamping, .loading => true
  | .clamped, .clamped | .clamped, .unloading => true
  | .unclamping, .unloading | .tableWait, .unloading | .unloading .., .unloading => true
  | _, _ => false

/-- The transport agrees with the boards; with `stale` the entry wait may still stand for a board that has gone. -/
structure Carried (stale : Bool) (b : Boards) (c : Conveyor) : Prop where
  next : ∀ n, b.next = some n → n.phase = .waiting ∧ n.fenced = false ∧ ∃ a, b.active = some a ∧ a.id ≠ n.id
  unload : c.unloadRequest = true → c.state = .clamped ∧ ∃ a, b.active = some a ∧ a.phase = .unloading
  empty : c.state = .empty → c.board = none
  board : c.state ≠ .empty → (stale = true → c.state ≠ .entryWait) → ∃ a, b.active = some a ∧ c.board = some a.id
  phase : ∀ a, b.active = some a → c.state.serves a.phase = true

theorem transportLaw_iff : TransportLaw s ↔ Carried false s.boards s.conveyor := by
  constructor
  · rintro ⟨next, unload, state⟩
    have loaded (busy : s.conveyor.state ≠ .empty) : ∃ a, s.boards.active = some a ∧ s.conveyor.board = some a.id
        ∧ s.conveyor.state.serves a.phase = true := by
      cases st : s.conveyor.state <;> rw [st] at state
      case empty => exact absurd st busy
      case clamped =>
        obtain ⟨a, active, id, phase⟩ := state
        refine ⟨a, active, id, ?_⟩
        rcases phase with e | e <;> rw [e] <;> rfl
      all_goals
        obtain ⟨a, active, id, phase⟩ := state
        exact ⟨a, active, id, by rw [phase]; rfl⟩
    refine ⟨fun n e => by rw [e] at next; exact next, unload, fun e => by rw [e] at state; exact state.1, fun busy _ => ?_,
      fun a active => ?_⟩
    · obtain ⟨a, active, id, -⟩ := loaded busy
      exact ⟨a, active, id⟩
    · by_cases e : s.conveyor.state = .empty
      · rw [e] at state ⊢
        rw [state.2 a active]
        rfl
      · obtain ⟨a', active', -, phase⟩ := loaded e
        rwa [← Option.some.inj (active'.symm.trans active)]
  · intro h
    refine ⟨?_, h.unload, ?_⟩
    · split
      · trivial
      · next n e => exact h.next n e
    · cases st : s.conveyor.state
      case empty =>
        refine ⟨h.empty st, fun a active => ?_⟩
        have serves := h.phase a active
        rw [st] at serves
        revert serves
        cases a.phase <;> simp [TransportState.serves]
      all_goals
        obtain ⟨a, active, id⟩ := h.board (by rw [st]; nofun) nofun
        have serves := h.phase a active
        rw [st] at serves
        refine ⟨a, active, id, ?_⟩
        revert serves
        cases a.phase <;> simp [TransportState.serves]

/-- What the transport reads of a board. -/
def Board.tag (b : Board) : Nat × Phase := (b.id, b.phase)

/-- What the transport reads of the NEXT board. -/
def Board.slot (b : Board) : Nat × Phase × Bool := (b.id, b.phase, b.fenced)

variable {stale : Bool} {b b' : Boards} {c : Conveyor}

theorem Carried.retag (h : Carried stale b c) (active : b'.active.map Board.tag = b.active.map Board.tag)
    (next : b'.next.map Board.slot = b.next.map Board.slot) : Carried stale b' c := by
  have back {a' : Board} (e : b'.active = some a') : ∃ a, b.active = some a ∧ a.id = a'.id ∧ a.phase = a'.phase := by
    rw [e] at active
    obtain ⟨a, found, tag⟩ := Option.map_eq_some_iff.mp active.symm
    exact ⟨a, found, congrArg Prod.fst tag, congrArg Prod.snd tag⟩
  have forth {a : Board} (e : b.active = some a) : ∃ a', b'.active = some a' ∧ a'.id = a.id ∧ a'.phase = a.phase := by
    rw [e] at active
    obtain ⟨a', found, tag⟩ := Option.map_eq_some_iff.mp active
    exact ⟨a', found, congrArg Prod.fst tag, congrArg Prod.snd tag⟩
  refine ⟨fun n' e => ?_, fun req => ?_, h.empty, fun st fresh => ?_, fun a' e => ?_⟩
  · rw [e] at next
    obtain ⟨n, found, slot⟩ := Option.map_eq_some_iff.mp next.symm
    obtain ⟨phase, fenced, a, active, other⟩ := h.next n found
    obtain ⟨a', active', id, -⟩ := forth active
    have id' : n.id = n'.id := congrArg Prod.fst slot
    have phase' : n.phase = n'.phase := congrArg (fun x => x.2.1) slot
    have fenced' : n.fenced = n'.fenced := congrArg (fun x => x.2.2) slot
    exact ⟨phase' ▸ phase, fenced' ▸ fenced, a', active', by rw [id, ← id']; exact other⟩
  · obtain ⟨clamped, a, active, unloading⟩ := h.unload req
    obtain ⟨a', active', -, phase⟩ := forth active
    exact ⟨clamped, a', active', phase.trans unloading⟩
  · obtain ⟨a, active, id⟩ := h.board st fresh
    obtain ⟨a', active', same, -⟩ := forth active
    exact ⟨a', active', by rw [same]; exact id⟩
  · obtain ⟨a, active, -, phase⟩ := back e
    rw [← phase]
    exact h.phase a active

/-- The transport passes from one state to another that works for the same phase. -/
theorem Carried.pass (h : Carried stale b c) {c' : Conveyor} (board : c'.board = c.board)
    (request : c'.unloadRequest = true → c.unloadRequest = true ∧ c'.state = .clamped)
    (old : c.state ≠ .empty) (new : c'.state ≠ .empty)
    (phase : ∀ a, b.active = some a → c.state.serves a.phase = true → c'.state.serves a.phase = true)
    (fresh : stale = true → c'.state ≠ .entryWait → c.state ≠ .entryWait) :
    Carried stale b c' where
  next := h.next
  unload req := ⟨(request req).2, (h.unload (request req).1).2⟩
  empty e := absurd e new
  board _ e := by
    rw [board]
    exact h.board old fun st => fresh st (e st)
  phase a e := phase a e (h.phase a e)

end

end Sys2Proof.Machine

/-! PROOFS. The places of the entries (R3, R70): what one entry asks of the pockets, the return queue and the head, and the rule for
an operation that touches one entry. -/

namespace Sys2Proof.Machine

/-- The place of one entry: the pocket that holds it, the return queue or the head, as its status says. A loose entry still has the
status of a pocket that no longer holds it. -/
structure EntryPlaced (loose : EntryRef → Option EntryStatus) (s : State) (ref : EntryRef) : Prop where
  pocket : ∀ p, (s.pocket p).entry = some ref → loose ref = none ∧ ∃ e, s.entry? ref = some e
    ∧ (s.pocket p).state.entryStatus? = some e.status ∧ e.pocket = some p
  entry : ∀ e, s.entry? ref = some e → e.pocket.isSome = e.status.inPocket
    ∧ (e.status.inPocket = true → loose ref = none → ∃ p, (s.pocket p).entry = some ref)
  queue : ref ∈ s.boards.queue ↔ ∃ e, s.entry? ref = some e ∧ e.status = .queued
  head : (∃ h, s.head.held = some h ∧ h.ref = ref) ↔ ∃ e, s.entry? ref = some e ∧ e.status = .inHead
  loose : ∀ st, loose ref = some st → st.inPocket = true ∧ ∃ e, s.entry? ref = some e ∧ e.status = st

/-- The board that is being unloaded has every entry terminal (R76). -/
def State.unloadsDone (s : State) : Prop :=
  ∀ b, s.boards.active = some b → b.phase = .unloading → b.allTerminal = true

/-- The laws of the entries, while some entries are loose and `n` of them still count as in work. -/
structure Entries (loose : EntryRef → Option EntryStatus) (n : Nat) (s : State) : Prop where
  placed : ∀ ref, EntryPlaced loose s ref
  nodup : s.boards.queue.Nodup
  bound : s.entriesInWork + n ≤ 128
  done : s.unloadsDone

/-- No entry is loose. -/
def noLoose : EntryRef → Option EntryStatus := fun _ => none

section
variable {s t : State} {loose loose' : EntryRef → Option EntryStatus} {n m : Nat} {ref : EntryRef} {e : Entry}

theorem Pocket.formed.entry_iff {r : Pocket} (h : r.formed) : r.entry.isSome = r.state.entryStatus?.isSome := by
  unfold Pocket.formed at h
  cases st : r.state <;> rw [st] at h <;> simp [PocketState.entryStatus?, h.1]

/-- No two pockets hold one entry (R3). -/
theorem EntryPlaced.unique (h : EntryPlaced loose s ref) {p q : Fin 128} (hp : (s.pocket p).entry = some ref)
    (hq : (s.pocket q).entry = some ref) : q = p := by
  obtain ⟨-, e, found, -, at_⟩ := h.pocket p hp
  obtain ⟨-, e', found', -, at'⟩ := h.pocket q hq
  cases found.symm.trans found'
  exact Option.some.inj (at'.symm.trans at_)

theorem entryLaw_iff (formed : PocketLaw s) : EntryLaw s ↔ Entries noLoose 0 s := by
  constructor
  · rintro ⟨⟨-, pocket, entry⟩, ⟨nodup, queue, bound, head⟩, done⟩
    refine ⟨fun ref => ⟨fun p hp => ⟨rfl, pocket p ref hp⟩, fun e he => ?_, queue ref, head ref, nofun⟩, nodup, bound, done⟩
    obtain ⟨same, holds⟩ := entry ref e he
    exact ⟨same, fun inPocket _ => (holds inPocket).imp fun p hp => hp.1⟩
  · intro h
    refine ⟨⟨fun p => (formed p).entry_iff, fun p ref hp => ((h.placed ref).pocket p hp).2, fun ref e he => ?_⟩,
      ⟨h.nodup, fun ref => (h.placed ref).queue, h.bound, fun ref => (h.placed ref).head⟩, h.done⟩
    obtain ⟨same, holds⟩ := (h.placed ref).entry e he
    refine ⟨same, fun inPocket => ?_⟩
    obtain ⟨p, hp⟩ := holds inPocket rfl
    exact ⟨p, hp, fun q hq => (h.placed ref).unique hp hq⟩

/-! ## Congruence -/

/-- The parts of the state that the laws of the entries read. -/
def State.books (s : State) : State :=
  { State.reset with
    chain := { Chain.afterReset with pockets := s.chain.pockets }
    boards := s.boards
    head := { Head.afterReset true with held := s.head.held } }

theorem State.books_of_core (e : t.core = s.core) : t.books = s.books :=
  (congrArg State.books e : t.core.books = s.core.books)

theorem Entries.congr (h : Entries loose n s) (e : t.books = s.books) : Entries loose n t := by
  have of : Entries loose n s.books :=
    ⟨fun ref => ⟨(h.placed ref).pocket, (h.placed ref).entry, (h.placed ref).queue, (h.placed ref).head, (h.placed ref).loose⟩,
      h.nodup, h.bound, h.done⟩
  rw [← e] at of
  exact ⟨fun ref => ⟨(of.placed ref).pocket, (of.placed ref).entry, (of.placed ref).queue, (of.placed ref).head,
    (of.placed ref).loose⟩, of.nodup, of.bound, of.done⟩

theorem Entries.ofCore (h : Entries loose n s) (e : t.core = s.core) : Entries loose n t := h.congr (State.books_of_core e)

/-- The head holds the entry. -/
def State.holds (s : State) (ref : EntryRef) : Prop := ∃ h, s.head.held = some h ∧ h.ref = ref

/-- One entry and its place are as they were. -/
structure SamePlace (ref : EntryRef) (s t : State) : Prop where
  pocket : ∀ p, (t.pocket p).entry = some ref ↔ (s.pocket p).entry = some ref
  state : ∀ p, (s.pocket p).entry = some ref → (t.pocket p).state = (s.pocket p).state
  entry : t.entry? ref = s.entry? ref
  queue : ref ∈ t.boards.queue ↔ ref ∈ s.boards.queue
  head : t.holds ref ↔ s.holds ref

theorem SamePlace.trans {u : State} (h : SamePlace ref s t) (k : SamePlace ref t u) : SamePlace ref s u where
  pocket p := (k.pocket p).trans (h.pocket p)
  state p hp := (k.state p ((h.pocket p).mpr hp)).trans (h.state p hp)
  entry := k.entry.trans h.entry
  queue := k.queue.trans h.queue
  head := k.head.trans h.head

theorem EntryPlaced.congr (h : EntryPlaced loose s ref) (same : SamePlace ref s t) (d : loose' ref = loose ref) :
    EntryPlaced loose' t ref where
  pocket p hp := by
    have hp' := (same.pocket p).mp hp
    rw [d, same.entry, same.state p hp']
    exact h.pocket p hp'
  entry e he := by
    rw [same.entry] at he
    obtain ⟨agree, holds⟩ := h.entry e he
    refine ⟨agree, fun inPocket tight => ?_⟩
    obtain ⟨p, hp⟩ := holds inPocket (d ▸ tight)
    exact ⟨p, (same.pocket p).mpr hp⟩
  queue := by rw [same.queue, same.entry]; exact h.queue
  head := by rw [same.entry]; exact same.head.trans h.head
  loose st hst := by rw [same.entry]; exact h.loose st (d ▸ hst)

/-- An operation that touches one entry. -/
theorem Entries.touch (h : Entries loose n s) (apart : ∀ r, r ≠ ref → SamePlace r s t) (tight : ∀ r, r ≠ ref → loose' r = loose r)
    (placed : EntryPlaced loose' t ref) (nodup : t.boards.queue.Nodup) (bound : t.entriesInWork + m ≤ 128)
    (done : t.unloadsDone) : Entries loose' m t where
  placed r := by
    by_cases e : r = ref
    · rw [e]; exact placed
    · exact (h.placed r).congr (apart r e) (tight r e)
  nodup := nodup
  bound := bound
  done := done

/-! ## What the place of an entry says -/

theorem EntryPlaced.not_queued (h : EntryPlaced loose s ref) (found : s.entry? ref = some e) (st : e.status ≠ .queued) :
    ref ∉ s.boards.queue := fun mem => by
  obtain ⟨e', found', queued⟩ := h.queue.mp mem
  cases found.symm.trans found'
  exact st queued

theorem EntryPlaced.not_held (h : EntryPlaced loose s ref) (found : s.entry? ref = some e) (st : e.status ≠ .inHead) :
    ¬ s.holds ref := fun held => by
  obtain ⟨e', found', inHead⟩ := h.head.mp held
  cases found.symm.trans found'
  exact st inHead

theorem EntryPlaced.out (h : EntryPlaced loose s ref) (found : s.entry? ref = some e)
    (away : e.status.inPocket = false ∨ loose ref ≠ none) (p : Fin 128) : (s.pocket p).entry ≠ some ref := fun hp => by
  obtain ⟨tight, e', found', status, -⟩ := h.pocket p hp
  cases found.symm.trans found'
  rcases away with off | l
  · cases st : (s.pocket p).state <;> rw [st] at status <;> simp [PocketState.entryStatus?] at status <;>
      rw [← status] at off <;> cases off
  · exact l tight

/-- An entry that no pocket holds, in the queue or in the head as its status says. -/
theorem EntryPlaced.resting (found : t.entry? ref = some e) (pocket : e.pocket = none) (st : e.status.inPocket = false)
    (out : ∀ p, (t.pocket p).entry ≠ some ref) (queue : ref ∈ t.boards.queue ↔ e.status = .queued)
    (head : t.holds ref ↔ e.status = .inHead) (tight : loose ref = none) : EntryPlaced loose t ref where
  pocket p hp := absurd hp (out p)
  entry e' he := by
    cases found.symm.trans he
    exact ⟨by rw [pocket, st]; rfl, fun on => by rw [st] at on; cases on⟩
  queue := by rw [found]; simpa using queue
  head := by rw [found]; simpa [State.holds] using head
  loose st' hst := by rw [tight] at hst; cases hst

/-- An entry that one pocket holds. -/
theorem EntryPlaced.carried (found : t.entry? ref = some e) {p : Fin 128} (pocket : e.pocket = some p)
    (st : e.status.inPocket = true) (holds : ∀ q, (t.pocket q).entry = some ref ↔ q = p)
    (status : (t.pocket p).state.entryStatus? = some e.status) (queue : ref ∉ t.boards.queue) (head : ¬ t.holds ref)
    (tight : loose ref = none) : EntryPlaced loose t ref where
  pocket q hq := by
    rw [(holds q).mp hq]
    exact ⟨tight, e, found, status, pocket⟩
  entry e' he := by
    cases found.symm.trans he
    exact ⟨by rw [pocket, st]; rfl, fun _ _ => ⟨p, (holds p).mpr rfl⟩⟩
  queue := by
    rw [found]
    refine iff_of_false queue ?_
    rintro ⟨e', he, queued⟩
    cases he
    rw [queued] at st
    cases st
  head := by
    rw [found]
    refine iff_of_false head ?_
    rintro ⟨e', he, inHead⟩
    cases he
    rw [inHead] at st
    cases st
  loose st' hst := by rw [tight] at hst; cases hst

/-- An entry that has gone. -/
theorem EntryPlaced.gone (found : t.entry? ref = none) (out : ∀ p, (t.pocket p).entry ≠ some ref) (queue : ref ∉ t.boards.queue)
    (head : ¬ t.holds ref) (tight : loose ref = none) : EntryPlaced loose t ref where
  pocket p hp := absurd hp (out p)
  entry e' he := by rw [found] at he; cases he
  queue := iff_of_false queue fun ⟨e, he, _⟩ => by rw [found] at he; cases he
  head := iff_of_false head fun ⟨e, he, _⟩ => by rw [found] at he; cases he
  loose st' hst := by rw [tight] at hst; cases hst

/-! ## The places that an update leaves -/

theorem SamePlace.setPocket {p : Fin 128} {k : Pocket} (old : (s.pocket p).entry ≠ some ref) (new : k.entry ≠ some ref) :
    SamePlace ref s (s.setPocket p k) where
  pocket q := by
    rw [State.pocket_setPocket_eq]
    split
    · next e => rw [e]; exact iff_of_false new old
    · exact Iff.rfl
  state q hq := by
    rw [State.pocket_setPocket_other _ _ _ _ fun e => old (by rw [← e]; exact hq)]
  entry := rfl
  queue := Iff.rfl
  head := Iff.rfl

theorem SamePlace.modifyEntry {r : EntryRef} (other : ref ≠ r) (f : Entry → Entry) : SamePlace ref s (s.modifyEntry r f) where
  pocket _ := Iff.rfl
  state _ _ := rfl
  entry := by rw [State.entry?_modifyEntry, if_neg other]
  queue := Iff.rfl
  head := Iff.rfl

theorem SamePlace.setQueue {q : List EntryRef} (same : ref ∈ q ↔ ref ∈ s.boards.queue) :
    SamePlace ref s { s with boards := { s.boards with queue := q } } where
  pocket _ := Iff.rfl
  state _ _ := rfl
  entry := rfl
  queue := same
  head := Iff.rfl

theorem SamePlace.setHead {hd : Head} (same : (∃ h, hd.held = some h ∧ h.ref = ref) ↔ s.holds ref) :
    SamePlace ref s { s with head := hd } where
  pocket _ := Iff.rfl
  state _ _ := rfl
  entry := rfl
  queue := Iff.rfl
  head := same

/-! ## The board that is being unloaded -/

/-- A change of an entry that is not terminal is no change of the board that is being unloaded. -/
theorem State.unloadsDone_modifyEntry (h : s.unloadsDone) (found : s.entry? ref = some e) (open_ : e.status.terminal = false)
    (f : Entry → Entry) : (s.modifyEntry ref f).unloadsDone := by
  intro b' active unloading
  obtain ⟨b, was, e'⟩ := Option.map_eq_some_iff.mp
    (active : s.boards.active.map (fun b => if b.id = ref.board then _ else b) = some b')
  by_cases id : b.id = ref.board
  · rw [if_pos id] at e'
    have phase : b.phase = .unloading := by rw [← unloading, ← e']
    have all := h b was phase
    obtain ⟨c, board, entry⟩ := State.entry?_eq_some found
    rw [← id, State.board?_active was] at board
    cases board
    have := List.all_eq_true.mp all e (List.mem_of_getElem? entry)
    rw [open_] at this
    cases this
  · rw [if_neg id] at e'
    subst e'
    exact h b was unloading

/-! ## The entries in work -/

theorem State.entriesInWork_setPocket (s : State) (p : Fin 128) (k : Pocket) :
    (s.setPocket p k).entriesInWork + (s.pocket p).entry.isSome.toNat = s.entriesInWork + k.entry.isSome.toNat := by
  have count := countP_vset (fun q : Pocket => q.entry.isSome) s.chain.pockets p k
  have apart : (s.setPocket p k).entriesInWork = s.boards.queue.length
      + (vset s.chain.pockets p k).toList.countP (fun q => q.entry.isSome) + (if s.head.held.isSome then 1 else 0) := rfl
  rw [apart]
  simp only [State.entriesInWork, State.pocket] at count ⊢
  omega

end

end Sys2Proof.Machine

/-! PROOFS. The entries through their pockets: promotion, withdrawal, the fall-back and the entry given up by the head (R5, R8, R33,
R68, R69, R152). -/

namespace Sys2Proof.Machine

section
variable {s t : State} {loose loose' : EntryRef → Option EntryStatus} {n : Nat} {ref : EntryRef} {e : Entry} {p : Fin 128} {k : Pocket}

theorem PocketState.inPocket_of_entryStatus {st : PocketState} {x : EntryStatus} (h : st.entryStatus? = some x) :
    x.inPocket = true := by
  cases st <;> cases h <;> rfl

theorem EntryStatus.not_terminal_of_inPocket {x : EntryStatus} (h : x.inPocket = true) : x.terminal = false := by
  cases x <;> first | rfl | cases h

theorem EntryStatus.not_inPocket_of_terminal {x : EntryStatus} (h : x.terminal = true) : x.inPocket = false := by
  cases x <;> first | rfl | cases h

/-! ## Operations that touch no entry -/

/-- Every place stays, and no more entries are in work than before. -/
theorem Entries.same (h : Entries loose n s) (apart : ∀ r, SamePlace r s t) (queue : t.boards.queue = s.boards.queue)
    (work : t.entriesInWork ≤ s.entriesInWork) (done : t.unloadsDone) : Entries loose n t where
  placed r := (h.placed r).congr (apart r) rfl
  nodup := by rw [queue]; exact h.nodup
  bound := (Nat.add_le_add_right work n).trans h.bound
  done := done

theorem Entries.relabel (h : Entries loose n s) (same : ∀ r, loose' r = loose r) : Entries loose' n s := by
  rwa [show loose' = loose from funext same]

/-- A pocket in no state of R3 holds no entry. -/
theorem Entries.entry_none (h : Entries loose n s) (st : (s.pocket p).state.entryStatus? = none) : (s.pocket p).entry = none := by
  cases found : (s.pocket p).entry with
  | none => rfl
  | some ref =>
    obtain ⟨-, e, -, status, -⟩ := (h.placed ref).pocket p found
    rw [st] at status
    cases status

/-- A pocket that held no entry is given a record that holds none. -/
theorem Entries.setPocket_free (h : Entries loose n s) (old : (s.pocket p).entry = none) (new : k.entry = none) :
    Entries loose n (s.setPocket p k) := by
  refine h.same (fun r => SamePlace.setPocket (by rw [old]; nofun) (by rw [new]; nofun)) rfl ?_ h.done
  have count := s.entriesInWork_setPocket p k
  rw [old, new] at count
  omega

/-! ## An entry and its pocket -/

/-- A pocket and the entry it holds go on to the next status together (R68). -/
theorem Entries.promote (h : Entries loose n s) (held : (s.pocket p).entry = some ref) {old new : EntryStatus}
    (before : (s.pocket p).state.entryStatus? = some old) (after : k.state.entryStatus? = some new) (same : k.entry = some ref) :
    Entries loose n ((s.setPocket p k).moveEntry ref old new) := by
  obtain ⟨tight, e, found, status, at_⟩ := (h.placed ref).pocket p held
  have was : e.status = old := Option.some.inj (status.symm.trans before)
  have open_ : e.status.inPocket = true := PocketState.inPocket_of_entryStatus status
  have found' : ((s.setPocket p k).moveEntry ref old new).entry? ref = some { e with status := new } := by
    rw [State.moveEntry, State.entry?_modifyEntry, if_pos rfl]
    show Option.map _ (s.entry? ref) = _
    rw [found, Option.map_some, if_pos was]
  refine h.touch (loose' := loose) (ref := ref) (fun r other => ?_) (fun _ _ => rfl) ?_ h.nodup ?_ ?_
  · refine (SamePlace.setPocket ?_ ?_).trans (SamePlace.modifyEntry other _)
    · rw [held]; exact fun e => other (Option.some.inj e).symm
    · rw [same]; exact fun e => other (Option.some.inj e).symm
  · refine EntryPlaced.carried found' at_ (PocketState.inPocket_of_entryStatus after) (fun q => ?_) ?_
      ((h.placed ref).not_queued found (by intro e; rw [e] at open_; cases open_))
      ((h.placed ref).not_held found (by intro e; rw [e] at open_; cases open_)) tight
    · show ((s.setPocket p k).pocket q).entry = some ref ↔ q = p
      rw [State.pocket_setPocket_eq]
      split
      · next e => exact iff_of_true same e
      · next other => exact iff_of_false (fun hq => other ((h.placed ref).unique held hq)) other
    · show ((s.setPocket p k).pocket p).state.entryStatus? = _
      rw [State.pocket_setPocket_eq, if_pos rfl]
      exact after
  · have count := s.entriesInWork_setPocket p k
    rw [held, same] at count
    have bound := h.bound
    have : ((s.setPocket p k).moveEntry ref old new).entriesInWork = (s.setPocket p k).entriesInWork := rfl
    simp only [Option.isSome_some] at count
    omega
  · exact State.unloadsDone_modifyEntry (s := s.setPocket p k) h.done found (EntryStatus.not_terminal_of_inPocket open_) _

/-- The pocket of an entry is emptied: the entry is loose until its notice. -/
theorem Entries.loosen (h : Entries loose n s) (held : (s.pocket p).entry = some ref) {st : EntryStatus}
    (before : (s.pocket p).state.entryStatus? = some st) (empty : k.entry = none) :
    Entries (Function.update loose ref (some st)) (n + 1) (s.setPocket p k) := by
  obtain ⟨-, e, found, status, at_⟩ := (h.placed ref).pocket p held
  have was : e.status = st := Option.some.inj (status.symm.trans before)
  have inPocket := PocketState.inPocket_of_entryStatus before
  have out (q : Fin 128) : ((s.setPocket p k).pocket q).entry ≠ some ref := by
    rw [State.pocket_setPocket_eq]
    split
    · rw [empty]; nofun
    · next other => exact fun hq => other ((h.placed ref).unique held hq)
  refine h.touch (ref := ref) (fun r other => ?_) (fun r other => Function.update_of_ne other _ _) ?_ h.nodup ?_ h.done
  · refine SamePlace.setPocket ?_ (by rw [empty]; nofun)
    rw [held]; exact fun e => other (Option.some.inj e).symm
  · refine ⟨fun q hq => absurd hq (out q), fun e' found' => ⟨((h.placed ref).entry e' found').1, fun _ tight => ?_⟩,
      (h.placed ref).queue, (h.placed ref).head, fun st' hst => ?_⟩
    · rw [Function.update_self] at tight
      cases tight
    · rw [Function.update_self] at hst
      cases hst
      exact ⟨inPocket, e, found, was⟩
  · have count := s.entriesInWork_setPocket p k
    rw [held, empty] at count
    have bound := h.bound
    simp only [Option.isSome_some, Option.isSome_none, Bool.toNat_true, Bool.toNat_false] at count
    omega

/-- A loose entry goes where its new status says: to the tail of the return queue, or nowhere. -/
theorem Entries.settle (h : Entries loose (n + 1) s) {st : EntryStatus} (off : loose ref = some st) {f : Entry → Entry}
    {q : List EntryRef} (pocket : ∀ e, (f e).pocket = none)
    (status : (∀ e, (f e).status = .queued) ∧ q = s.boards.queue ++ [ref] ∨ (∀ e, (f e).status.terminal = true) ∧ q = s.boards.queue) :
    Entries (Function.update loose ref none) n
      { s.modifyEntry ref f with boards := { (s.modifyEntry ref f).boards with queue := q } } := by
  obtain ⟨inPocket, e, found, was⟩ := (h.placed ref).loose st off
  subst was
  have notQueued := (h.placed ref).not_queued found (by intro e; rw [e] at inPocket; cases inPocket)
  have notHeld := (h.placed ref).not_held found (by intro e; rw [e] at inPocket; cases inPocket)
  have found' : (s.modifyEntry ref f).entry? ref = some (f e) := by
    rw [State.entry?_modifyEntry, if_pos rfl, found, Option.map_some]
  have out := (h.placed ref).out found (.inr (by rw [off]; nofun))
  have rest : (f e).status.inPocket = false := by
    rcases status with ⟨queued, -⟩ | ⟨terminal, -⟩
    · rw [queued]; rfl
    · exact EntryStatus.not_inPocket_of_terminal (terminal e)
  refine h.touch (ref := ref) (fun r other => ?_) (fun r other => Function.update_of_ne other _ _) ?_ ?_ ?_ ?_
  · refine (SamePlace.modifyEntry other f).trans (SamePlace.setQueue ?_)
    show r ∈ q ↔ r ∈ s.boards.queue
    rcases status with ⟨-, e⟩ | ⟨-, e⟩ <;> simp [e, other]
  · refine EntryPlaced.resting (e := f e) found' (pocket e) rest out ?_ ?_ (Function.update_self _ _ _)
    · show ref ∈ q ↔ _
      rcases status with ⟨queued, eq⟩ | ⟨terminal, eq⟩
      · simp [eq, queued]
      · rw [eq]
        refine iff_of_false notQueued fun queued => ?_
        have := terminal e
        rw [queued] at this
        cases this
    · refine iff_of_false notHeld fun inHead => ?_
      rcases status with ⟨queued, -⟩ | ⟨terminal, -⟩
      · rw [queued] at inHead
        cases inHead
      · have := terminal e
        rw [inHead] at this
        cases this
  · show q.Nodup
    rcases status with ⟨-, e⟩ | ⟨-, e⟩
    · rw [e, List.nodup_append]
      exact ⟨h.nodup, List.nodup_singleton _, fun a ha b hb eq => notQueued (by rw [List.mem_singleton.mp hb] at eq; rwa [← eq])⟩
    · rw [e]; exact h.nodup
  · have bound := h.bound
    have longer : q.length ≤ s.boards.queue.length + 1 := by
      rcases status with ⟨-, e⟩ | ⟨-, e⟩ <;> simp [e]
    have : State.entriesInWork { s.modifyEntry ref f with boards := { (s.modifyEntry ref f).boards with queue := q } }
        = q.length + s.chain.pockets.toList.countP (fun k => k.entry.isSome) + (if s.head.held.isSome then 1 else 0) := rfl
    rw [this]
    simp only [State.entriesInWork] at bound
    omega
  · exact State.unloadsDone_modifyEntry h.done found (EntryStatus.not_terminal_of_inPocket inPocket) f

/-- The fall-back rule takes a loose entry (R69). -/
theorem Entries.fallBack (h : Entries loose (n + 1) s) {st : EntryStatus} (off : loose ref = some st) (falls : st.fallsBack = true)
    (counts : Bool) (station : Option (Fin 80)) :
    Entries (Function.update loose ref none) n (s.fallBack ref counts station) := by
  obtain ⟨-, e, found, was⟩ := (h.placed ref).loose st off
  obtain ⟨b, board, -⟩ := State.entry?_eq_some found
  subst was
  have closed (c : EntryCause) : Entries (Function.update loose ref none) n
      (s.modifyEntry ref fun e => e.close .missed (some c)) :=
    h.settle off (q := s.boards.queue) (fun _ => rfl) (.inr ⟨fun _ => rfl, rfl⟩)
  unfold State.fallBack State.raiseMissed
  rw [board, found]
  dsimp only
  rw [if_pos falls]
  split
  · exact (closed _).ofCore (State.raise_warn_core _ _ _)
  · split
    · exact (closed _).ofCore (State.raise_warn_core _ _ _)
    · exact h.settle off (fun _ => rfl) (.inl ⟨fun _ => rfl, rfl⟩)

/-! ## Withdrawals (R5, R33) -/

theorem State.withdraw_books (s : State) (p : Fin 128) : (s.withdraw p).books
    = if (s.pocket p).state = .assigned then (s.setPocket p Pocket.emptied).books else s.books := by
  unfold State.withdraw
  dsimp only
  split
  · split
    · exact State.books_of_core (State.lowerPending_unread _ _).core
    · rfl
  · rfl

theorem Entries.withdrawAt (h : Entries loose n s) (st : Fin 80) (q : Fin 128) : Entries loose n (s.withdrawAt st q) := by
  unfold State.withdrawAt
  dsimp only
  split
  · next named =>
    have books := s.withdraw_books (s.pocketAt q)
    rw [if_pos named.1] at books
    split
    · next ref held =>
      obtain ⟨tight, -⟩ := (h.placed ref).pocket _ held
      have taken := h.loosen held (st := .assigned) (by rw [named.1]; rfl) (k := Pocket.emptied) rfl
      refine ((taken.congr books).fallBack (Function.update_self _ _ _) rfl false (some st)).relabel fun r => ?_
      by_cases e : r = ref
      · rw [e, Function.update_self, tight]
      · rw [Function.update_of_ne e, Function.update_of_ne e]
    · next held => exact (h.setPocket_free held (k := Pocket.emptied) rfl).congr books
  · exact h

/-- A station leaves service, and its assignments are withdrawn (R33). -/
theorem Entries.takeOut (h : Entries loose n s) (st : Fin 80) (new : StationState) :
    Entries loose n ((s.moveStation st new).withdrawStation st) :=
  foldl_keeps (fun _ q hu => hu.withdrawAt st q) _ (h.ofCore (s.moveStation_unread st new).core)

/-! ## The outcome of the entry held (R68, R152) -/

/-- The head's outcome for the entry it holds, with which the head lets the entry go (R68). -/
theorem Entries.outcome (h : Entries loose n s) {hd : HeldEntry} (held : s.head.held = some hd) (o : HeadOutcome)
    {v : Head} (empty : v.held = none) : Entries loose n { s.noticeOutcome hd.ref o with head := v } := by
  obtain ⟨e, found, inHead⟩ := (h.placed hd.ref).head.mp ⟨hd, held, rfl⟩
  have away : e.status.inPocket = false := by rw [inHead]; rfl
  have pocket : e.pocket = none := by
    have := ((h.placed hd.ref).entry e found).1
    rw [away] at this
    simpa using this
  have tight : loose hd.ref = none := by
    cases l : loose hd.ref with
    | none => rfl
    | some st =>
      obtain ⟨inPocket, e', found', was⟩ := (h.placed hd.ref).loose st l
      cases found.symm.trans found'
      rw [← was, away] at inPocket
      cases inPocket
  have out := (h.placed hd.ref).out found (.inl away)
  have notQueued := (h.placed hd.ref).not_queued found (by rw [inHead]; nofun)
  unfold State.noticeOutcome
  rw [found]
  dsimp only
  rw [if_pos inHead]
  generalize ef : (fun e : Entry => _) = f
  obtain ⟨closed, quiet, off⟩ : (f e).pocket = none ∧ (f e).status.inPocket = false ∧ (f e).status ≠ .queued
      ∧ (f e).status ≠ .inHead := by
    rw [← ef]
    cases o <;> exact ⟨by first | rfl | exact pocket, rfl, nofun, nofun⟩
  have found' : (s.modifyEntry hd.ref f).entry? hd.ref = some (f e) := by
    rw [State.entry?_modifyEntry, if_pos rfl, found, Option.map_some]
  refine h.touch (loose' := loose) (ref := hd.ref) (fun r other => ?_) (fun _ _ => rfl) ?_ h.nodup ?_ ?_
  · refine (SamePlace.modifyEntry other f).trans (SamePlace.setHead ?_)
    refine iff_of_false (fun ⟨h', e', _⟩ => by rw [empty] at e'; cases e') fun ⟨h', e', same⟩ => ?_
    cases held.symm.trans e'
    exact other same.symm
  · refine EntryPlaced.resting (e := f e) found' closed quiet out (iff_of_false notQueued off.1) (iff_of_false ?_ off.2) tight
    exact fun ⟨h', e', _⟩ => by rw [show v.held = some h' from e'] at empty; cases empty
  · have bound := h.bound
    show s.boards.queue.length + s.chain.pockets.toList.countP (fun k => k.entry.isSome) + (if v.held.isSome then 1 else 0) + n
      ≤ 128
    rw [empty]
    simp only [State.entriesInWork] at bound
    show _ + 0 + n ≤ 128
    omega
  · exact State.unloadsDone_modifyEntry h.done found (by rw [inHead]; rfl) f

theorem Entries.failHeld (h : Entries loose n s) (c : EntryCause) (m : Bool) : Entries loose n (s.failHeld c m) := by
  unfold State.failHeld
  split
  · exact h
  · next held => exact h.outcome held _ rfl

theorem Entries.insertHeld (h : Entries loose n s) : Entries loose n s.insertHeld := by
  unfold State.insertHeld
  split
  · exact h
  · next held => exact h.outcome held _ rfl

theorem Entries.unclinchHeld (h : Entries loose n s) : Entries loose n s.unclinchHeld := by
  unfold State.unclinchHeld
  split
  · exact h
  · next held => exact h.outcome held _ rfl

/-! ## The entry into STOPPED and the raises (R190, R191) -/

theorem Entries.haltHead (h : Entries loose n s) : Entries loose n s.haltHead := by
  unfold State.haltHead
  dsimp only
  split
  · exact h
  · have given : Entries loose n s.giveUpHeld := by
      unfold State.giveUpHeld
      split
      · exact h.failHeld _ _
      · exact h.failHeld _ _
      · exact h
    refine Entries.ofCore (s := State.haltWatch _ .head) ?_ (State.noticeHalted_core _ _)
    refine Entries.ofCore (s := { s.giveUpHeld with head := s.giveUpHeld.head.halted }) ?_ (State.haltWatch_core _ _)
    exact given.congr rfl

theorem State.haltConveyor_books (s : State) : s.haltConveyor.books = s.books := by
  unfold State.haltConveyor
  split
  · exact (State.books_of_core (State.haltWatch_core _ _)).trans rfl
  · exact (State.books_of_core (State.haltWatch_core _ _)).trans rfl
  · rfl

theorem State.abandonMeasurement_books (s : State) : s.abandonMeasurement.books = s.books := by
  unfold State.abandonMeasurement
  split <;> rfl

theorem Entries.enterStopped (h : Entries loose n s) (c : LineCause) : Entries loose n (s.enterStopped c) := by
  have lined := h.ofCore (s.setLine_core .stopped c)
  have stopped := ((lined.congr (State.abandonMeasurement_books _)).ofCore (State.stopTable_core _)).haltHead
  exact (stopped.ofCore (State.stopSpan_core _)).congr (State.haltConveyor_books _)

theorem Entries.raise (h : Entries loose n s) (src : Source) (c : AlarmClass) (x : Context) : Entries loose n (s.raise src c x) := by
  have recorded := h.ofCore (s.recordRaise_core src c x)
  unfold State.raise
  split
  · exact h
  · unfold State.lineEffect
    split
    · exact recorded.ofCore (State.setLine_core _ _ _)
    · split
      · exact recorded.enterStopped _
      · exact recorded

/-! ## Stations leave service (R34, R35, R114) -/

theorem Entries.quarantine (h : Entries loose n s) (st : Fin 80) : Entries loose n (s.quarantine st) := by
  unfold State.quarantine
  refine Entries.raise ?_ _ _ _
  split
  case h_5 => exact h
  all_goals exact h.takeOut st _

theorem Entries.misfeed (h : Entries loose n s) (st : Fin 80) : Entries loose n (s.misfeed st) := by
  unfold State.misfeed
  split
  case h_6 => exact h
  case h_4 | h_5 => exact h.raise _ _ _
  all_goals exact (h.takeOut st _).raise _ _ _

theorem Entries.failNotice (h : Entries loose n s) (st : Fin 80) : Entries loose n (s.failNotice st) := by
  unfold State.failNotice
  dsimp only
  split
  · exact Entries.quarantine (h.ofCore (State.setStation_core _ _ _)) st
  · exact h.ofCore (State.setStation_core _ _ _)

end

end Sys2Proof.Machine

/-! PROOFS. The entries on the chain: fires, the presence check, measurements and the gate (R15 to R18, R90, R110 to R115). -/

namespace Sys2Proof.Machine

section
variable {s t : State} {loose : EntryRef → Option EntryStatus} {n : Nat} {ref : EntryRef} {p : Fin 128} {k : Pocket}

/-- A pocket that goes on to the next status with the entry it holds, or holds none. -/
theorem Entries.promoteElim (h : Entries loose n s) {old new : EntryStatus} (before : (s.pocket p).state.entryStatus? = some old)
    (after : k.state.entryStatus? = some new) (same : k.entry = (s.pocket p).entry) :
    Entries loose n ((s.pocket p).entry.elim (s.setPocket p k) fun ref => (s.setPocket p k).moveEntry ref old new) := by
  cases held : (s.pocket p).entry with
  | none => exact h.setPocket_free held (same.trans held)
  | some ref => exact h.promote held before after (same.trans held)

/-! ## Fires (R90) -/

theorem Entries.fireInto (h : Entries loose n s) (st : Fin 80) (assigned : (s.pocket p).state = .assigned) :
    Entries loose n (s.fireInto st p) := by
  have fired := h.promoteElim (p := p) (k := { s.pocket p with state := .fired }) (old := .assigned) (new := .fired)
    (by rw [assigned]; rfl) rfl rfl
  unfold State.fireInto
  dsimp only
  have counted (r : Station) (u : FireUnit) : Entries loose n (State.setFireUnit (State.setStation
      (match (s.pocket p).entry with
        | some ref => (s.setPocket p { s.pocket p with state := .fired }).moveEntry ref .assigned .fired
        | none => s.setPocket p { s.pocket p with state := .fired }) st r) st u) := by
    refine Entries.ofCore ?_ ((State.setFireUnit_core _ _ _).trans (State.setStation_core _ _ _))
    revert fired
    cases (s.pocket p).entry <;> exact id
  split
  · exact (counted _ _).ofCore (State.raise_warn_core _ _ _)
  · exact counted _ _

theorem Entries.fire (h : Entries loose n s) (st : Fin 80) : Entries loose n (s.fire st) := by
  unfold State.fire
  split
  · next due => exact h.fireInto st (Pocket.names_iff.mp (State.fireDue_names due)).1
  · exact h

theorem Entries.fireAll (h : Entries loose n s) : Entries loose n s.fireAll :=
  State.fireAll_keeps (P := Entries loose n) (fun _ k hu => hu.fire k) s h

/-! ## The presence check (R15, R16) -/

theorem Entries.misfeedStation (h : Entries loose n s) (v : Pocket) : Entries loose n (v.station.elim s s.misfeed) := by
  cases v.station with
  | none => exact h
  | some st => exact h.misfeed st

/-- The notices of a misfeed, of which BDQ's settles the entry that the pocket held (R16). -/
theorem Entries.misfeedNotices (h : Entries (Function.update loose ref (some .fired)) (n + 1) s) (v : Pocket)
    (held : v.entry = some ref) : Entries (Function.update (Function.update loose ref (some .fired)) ref none) n
      (s.misfeedNotices v) := by
  have drawn := h.ofCore s.draw_core
  have off : Function.update loose ref (some EntryStatus.fired) ref = some .fired := Function.update_self _ _ _
  unfold State.misfeedNotices
  dsimp only
  rw [held]
  split
  · exact (drawn.fallBack off rfl true v.station).misfeedStation v
  · exact (drawn.misfeedStation v).fallBack off rfl true v.station

theorem State.misfeedNotices_none (h : Entries loose n s) {v : Pocket} (held : v.entry = none) :
    Entries loose n (s.misfeedNotices v) := by
  have drawn := h.ofCore s.draw_core
  unfold State.misfeedNotices
  dsimp only
  rw [held]
  split
  · exact drawn.misfeedStation v
  · exact drawn.misfeedStation v

/-- A loose entry that has been settled. -/
theorem Entries.settled {st : Option EntryStatus} (h : Entries (Function.update (Function.update loose ref st) ref none) n s)
    (tight : loose ref = none) : Entries loose n s := h.relabel fun r => by
  by_cases e : r = ref
  · rw [e, Function.update_self, tight]
  · rw [Function.update_of_ne e, Function.update_of_ne e]

theorem Entries.checkPresence (h : Entries loose n s) (seen : Bool) : Entries loose n (s.checkPresence seen) := by
  unfold State.checkPresence
  dsimp only
  split
  · next fired =>
    exact h.promoteElim (k := { s.pocket (s.pocketAt 84) with state := .loaded }) (by rw [fired]; rfl) rfl rfl
  · next fired =>
    cases held : (s.pocket (s.pocketAt 84)).entry with
    | none => exact State.misfeedNotices_none (h.setPocket_free held rfl) held
    | some ref =>
      have off := h.loosen held (st := .fired) (by rw [fired]; rfl) (k := Pocket.emptied) rfl
      exact (off.misfeedNotices _ held).settled ((h.placed ref).pocket _ held).1
  · next empty =>
    have stray := h.setPocket_free (k := { state := .orphan, cause := some .stray })
      (h.entry_none (p := s.pocketAt 84) (by rw [empty]; rfl)) rfl
    exact (stray.ofCore (State.raise_warn_core _ _ _)).ofCore (State.draw_core _)
  · next orphan => exact h.setPocket_free (h.entry_none (by rw [orphan]; rfl)) rfl
  · exact h

theorem Entries.checkAndFire (h : Entries loose n s) (seen : Bool) : Entries loose n (s.checkAndFire seen) := by
  have drawn := h.ofCore s.draw_core
  unfold State.checkAndFire
  split
  · exact drawn.fireAll.checkPresence seen
  · exact (drawn.checkPresence seen).fireAll

/-! ## Measurements (R110 to R115) -/

/-- One of three parts of an event takes one property to another, and the other two keep both (R96). -/
theorem inOrder3_takes {P Q : State → Prop} {a b c : State → State} (i : Nat) (ha : ∀ s, P s → Q (a s))
    (hb : ∀ s, P s → P (b s)) (hb' : ∀ s, Q s → Q (b s)) (hc : ∀ s, P s → P (c s)) (hc' : ∀ s, Q s → Q (c s)) (h : P s) :
    Q (inOrder3 i a b c s) := by
  unfold inOrder3
  split
  · exact hc' _ (hb' _ (ha _ h))
  · exact hb' _ (hc' _ (ha _ h))
  · exact hc' _ (ha _ (hb _ h))
  · exact ha _ (hc _ (hb _ h))
  · exact hb' _ (ha _ (hc _ h))
  · exact ha _ (hb _ (hc _ h))

theorem Entries.rejectPocket (h : Entries loose n s) {m : Measurement} (loaded : (s.pocket m.pocket).state = .loaded)
    (held : (s.pocket m.pocket).entry = some m.entry) (r : VerifyResult) (reading : Option Nat) :
    Entries loose n (s.rejectPocket m r reading) := by
  have off := h.loosen held (st := .loaded) (by rw [loaded]; rfl)
    (k := { state := .rejected, result := some r, cause := some .verify }) rfl
  have settled : Entries (Function.update (Function.update loose m.entry (some .loaded)) m.entry none) n
      (s.rejectPocket m r reading) :=
    inOrder3_takes (P := Entries (Function.update loose m.entry (some .loaded)) (n + 1)) _
      (fun u hu => hu.fallBack (Function.update_self _ _ _) rfl true (some m.station)) (fun u hu => hu.failNotice m.station)
      (fun u hu => hu.failNotice m.station) (fun u hu => Entries.raise hu _ _ _) (fun u hu => Entries.raise hu _ _ _) (off.ofCore (State.draw_core _))
  exact settled.settled ((h.placed m.entry).pocket _ held).1

theorem Entries.judgePocket (h : Entries loose n s) {m : Measurement} (measured : (s.pocket m.pocket).measuredFor m)
    (r : VerifyResult) (reading : Option Nat) : Entries loose n (s.judgePocket m r reading) := by
  have held (loaded : (s.pocket m.pocket).state = .loaded) : (s.pocket m.pocket).entry = some m.entry := by
    rcases measured with orphan | ⟨-, held, -⟩
    · rw [loaded] at orphan; cases orphan
    · exact held
  unfold State.judgePocket
  split
  · next loaded =>
    exact (h.promote (held loaded) (k := { s.pocket m.pocket with state := .verified, result := some .pass })
      (by rw [loaded]; rfl) rfl (held loaded)).ofCore (State.setStation_core _ _ _)
  · next loaded _ => exact h.rejectPocket loaded (held loaded) _ reading
  · next orphan =>
    have empty := h.entry_none (p := m.pocket) (by rw [orphan]; rfl)
    exact h.setPocket_free empty empty
  · exact h

theorem Entries.completeMeasurement (h : Entries loose n s) (mech : Mech 0 s) (forward reverse : Nat) :
    Entries loose n (s.completeMeasurement forward reverse) := by
  unfold State.completeMeasurement
  split
  · exact h
  · next m flight =>
    split
    · have released (j : Judgement) : Entries loose n (State.recordJudgement { s with verifier := s.verifier.release } j) :=
        h.congr rfl
      exact (released _).judgePocket (mech.flight m flight).2 _ _
    · exact h

theorem Entries.passUnmeasured (h : Entries loose n s) (loaded : (s.pocket p).state = .loaded)
    (held : (s.pocket p).entry = some ref) (st : Fin 80) (code : Nat) (kind : VerifyKind) :
    Entries loose n (s.passUnmeasured p ref st code kind) :=
  (h.promote held (k := { s.pocket p with state := .verified, result := none }) (by rw [loaded]; rfl) rfl held).congr rfl

theorem Entries.startMeasurement (h : Entries loose n s) : Entries loose n s.startMeasurement := by
  unfold State.startMeasurement
  dsimp only
  split
  · next due =>
    rw [Bool.and_eq_true] at due
    have loaded := State.verifyWanted_loaded due.1
    split
    · next held _ =>
      split
      · exact h
      · split
        · exact h.passUnmeasured loaded held _ _ _
        · split
          · exact h.passUnmeasured loaded held _ _ _
          · exact h.congr rfl
    · exact h
  · exact h

/-! ## The index and the gate (R11 to R18) -/

@[simp] theorem State.startWatch_books (s : State) (w : WatchId) (i : Nat) : (s.startWatch w i).books = s.books :=
  State.books_of_core (State.startWatch_core _ _ _)

@[simp] theorem State.stopWatch_books (s : State) (w : WatchId) : (s.stopWatch w).books = s.books :=
  State.books_of_core (State.stopWatch_core _ _)

@[simp] theorem State.haltWatch_books (s : State) (w : WatchId) : (s.haltWatch w).books = s.books :=
  State.books_of_core (State.haltWatch_core _ _)

theorem Entries.completeIndex (h : Entries loose n s) (seen : Bool) : Entries loose n (s.completeIndex seen) := by
  rw [State.completeIndex_eq]
  split
  · have advanced : Entries loose n s.advanced := h.congr rfl
    exact ((advanced.ofCore (State.stopWatch_core _ _)).checkAndFire seen).startMeasurement
  · exact h

theorem State.driveIndex_books (s : State) : s.driveIndex.books = s.books := State.startWatch_books _ _ _

theorem Entries.requestIndex (h : Entries loose n s) : Entries loose n s.requestIndex := by
  unfold State.requestIndex
  split
  · exact h.congr s.driveIndex_books
  · exact h

theorem Entries.recoverIndex (h : Entries loose n s) : Entries loose n s.recoverIndex := by
  unfold State.recoverIndex
  split
  · exact h.congr s.driveIndex_books
  · exact h

theorem Entries.interruptIndex (h : Entries loose n s) : Entries loose n s.interruptIndex := by
  unfold State.interruptIndex
  split
  · exact h.congr (State.haltWatch_books _ _)
  · exact h

theorem Entries.startStroke (h : Entries loose n s) : Entries loose n s.startStroke := by
  unfold State.startStroke
  split
  · exact h.congr (State.startWatch_books _ _ _)
  · exact h

theorem PocketState.entryStatus?_of_dumped {st : PocketState} (h : st.dumped = true) : st.entryStatus? = none := by
  cases st <;> first | rfl | cases h

theorem Entries.completeStroke (h : Entries loose n s) (place : PlaceLaw s) : Entries loose n s.completeStroke := by
  unfold State.completeStroke
  split
  · exact h
  · next p stroke =>
    have dumped := ((placeLaw_iff.mp place).2 p stroke).1
    have emptied := h.setPocket_free (k := Pocket.emptied) (h.entry_none (PocketState.entryStatus?_of_dumped dumped)) rfl
    exact emptied.congr (State.stopWatch_books _ _)

end

end Sys2Proof.Machine

/-! PROOFS. The entries at entry and at the head: assignment, the pick and what the head holds (R19, R70, R81, R87, R88, R143 to
R147). -/

namespace Sys2Proof.Machine

section
variable {s t : State} {loose : EntryRef → Option EntryStatus} {n : Nat} {ref : EntryRef} {p : Fin 128} {k : Pocket}

/-! ## The boards' lists -/

/-- What the lookup of entries reads of a board. -/
def Board.list (b : Board) : Nat × List Entry := (b.id, b.entries)

theorem State.entry?_congr (active : t.boards.active.map Board.list = s.boards.active.map Board.list)
    (next : t.boards.next.map Board.list = s.boards.next.map Board.list) (ref : EntryRef) : t.entry? ref = s.entry? ref := by
  have lookup (u : State) : u.entry? ref =
      match u.boards.active.map Board.list with
      | some b => if b.1 = ref.board then b.2[ref.index]?
        else ((u.boards.next.map Board.list).filter fun b => b.1 = ref.board).bind fun b => b.2[ref.index]?
      | none => ((u.boards.next.map Board.list).filter fun b => b.1 = ref.board).bind fun b => b.2[ref.index]? := by
    have behind : ((u.boards.next.filter fun b => b.id = ref.board).bind fun b => b.entries[ref.index]?)
        = ((u.boards.next.map Board.list).filter fun b => b.1 = ref.board).bind fun b => b.2[ref.index]? := by
      cases u.boards.next with
      | none => rfl
      | some b => by_cases e : b.id = ref.board <;> simp [Option.filter, Board.list, e]
    unfold State.entry? State.board?
    cases u.boards.active with
    | none => exact behind
    | some a =>
      by_cases e : a.id = ref.board
      · simp [Board.list, e]
      · simp only [e, if_false, Option.map_some, Board.list]
        exact behind
  rw [lookup, lookup, active, next]

theorem State.board?_next {a b : Board} (active : s.boards.active = some a) (next : s.boards.next = some b)
    (other : a.id ≠ b.id) : s.board? b.id = some b := by
  simp [State.board?, active, next, other]

/-- A change of the boards that keeps their lists and the return queue. -/
theorem Entries.retag (h : Entries loose n s) {b : Boards} (active : b.active.map Board.list = s.boards.active.map Board.list)
    (next : b.next.map Board.list = s.boards.next.map Board.list) (queue : b.queue = s.boards.queue)
    (done : ∀ a, b.active = some a → a.phase = .unloading → a.allTerminal = true) : Entries loose n { s with boards := b } := by
  refine h.same (fun r => ⟨fun _ => Iff.rfl, fun _ _ => rfl, State.entry?_congr active next r, ?_, Iff.rfl⟩) queue ?_ done
  · show r ∈ b.queue ↔ _
    rw [queue]
  · show b.queue.length + _ + _ ≤ _
    rw [queue]
    exact Nat.le_refl _

theorem Entries.fence (h : Entries loose n s) (ref : EntryRef) : Entries loose n (s.fence ref) := by
  unfold State.fence
  split
  · exact h
  · refine h.retag ?_ rfl rfl fun a' active unloading => ?_
    · rw [Option.map_map]
      rfl
    · obtain ⟨a, was, e⟩ := Option.map_eq_some_iff.mp active
      subst e
      exact h.done a was unloading

/-! ## The candidate (R81) -/

theorem Board.firstPending_spec {b : Board} {i : Nat} (h : b.firstPending = some i) :
    ∃ e, b.entries[i]? = some e ∧ e.status = .pending := by
  obtain ⟨lt, pending, -⟩ := List.findIdx?_eq_some_iff_getElem.mp h
  exact ⟨b.entries[i], List.getElem?_eq_getElem lt, of_decide_eq_true pending⟩

/-- The candidate is the head of the return queue, or with an empty queue a PENDING entry. -/
theorem State.candidate_cases (carried : Carried false s.boards s.conveyor) {src : CandidateSource}
    (h : s.candidate = some (ref, src)) :
    src = .queue ∧ (∃ rest, s.boards.queue = ref :: rest)
      ∨ src ≠ .queue ∧ s.boards.queue = [] ∧ ∃ e, s.entry? ref = some e ∧ e.status = .pending := by
  unfold State.candidate at h
  split at h
  · next queue =>
    cases h
    exact .inl ⟨rfl, _, queue⟩
  · next queue =>
    right
    split at h
    · cases h
    · next a active =>
      split at h
      · next i first =>
        cases h
        obtain ⟨e, found, pending⟩ := Board.firstPending_spec first
        exact ⟨nofun, queue, e, by simp [State.entry?, State.board?_active active, found], pending⟩
      · split at h
        · cases h
        · next b next =>
          obtain ⟨i, first, e⟩ := Option.map_eq_some_iff.mp h
          cases e
          obtain ⟨e, found, pending⟩ := Board.firstPending_spec first
          obtain ⟨-, -, a', active', other⟩ := carried.next b next
          rw [active] at active'
          cases active'
          exact ⟨nofun, queue, e, by simp [State.entry?, State.board?_next active next other, found], pending⟩

/-! ## How many pockets may hold an entry (R70) -/

theorem toList_eq_map_vget {α : Type} {m : Nat} (v : Vector α m) : v.toList = (List.finRange m).map (vget v) :=
  List.ext_getElem (by simp) fun i _ _ => by simp [vget]

/-- At most 97 pockets stand at the positions 0 to 96. -/
theorem State.holding_le (s : State) (stand : ∀ p, (s.pocket p).entry.isSome = true → (s.positionOf p).val ≤ 96) :
    s.chain.pockets.toList.countP (fun k => k.entry.isSome) ≤ 97 := by
  have turned : ((List.finRange 128).map s.positionOf).Perm (List.finRange 128) := by
    refine (List.perm_ext_iff_of_nodup ?_ (List.nodup_finRange _)).mpr fun q => ?_
    · exact (List.nodup_finRange _).map fun p q e => by
        rw [← s.pocketAt_positionOf p, e, s.pocketAt_positionOf]
    · exact iff_of_true (List.mem_map.mpr ⟨s.pocketAt q, List.mem_finRange _, s.positionOf_pocketAt q⟩) (List.mem_finRange q)
  calc s.chain.pockets.toList.countP (fun k => k.entry.isSome)
      = (List.finRange 128).countP fun p => (s.pocket p).entry.isSome := by
        rw [toList_eq_map_vget, List.countP_map]
        rfl
    _ ≤ (List.finRange 128).countP fun p => decide ((s.positionOf p).val ≤ 96) :=
        List.countP_mono_left fun p _ some_ => decide_eq_true (stand p some_)
    _ = ((List.finRange 128).map s.positionOf).countP fun q => decide (q.val ≤ 96) := by rw [List.countP_map]; rfl
    _ = (List.finRange 128).countP fun q => decide (q.val ≤ 96) := turned.countP_eq _
    _ = (List.range (97 + 31)).countP fun i => decide (i ≤ 96) := by
        rw [← List.map_coe_finRange_eq_range, List.countP_map]
        rfl
    _ ≤ 97 := by
        have low : (List.range 97).countP (fun i => decide (i ≤ 96)) ≤ 97 := List.countP_le_length.trans (by simp)
        have high : ((List.range 31).map (97 + ·)).countP (fun i => decide (i ≤ 96)) = 0 := by
          rw [List.countP_eq_zero]
          intro i hi
          obtain ⟨j, -, rfl⟩ := List.mem_map.mp hi
          rw [decide_eq_true_eq]
          omega
        rw [List.range_add, List.countP_append, high, Nat.add_zero]
        exact low

/-- No pocket that holds an entry stands beyond 96. -/
theorem Mech.position_le (mech : Mech 0 s) (place : PlaceLaw s) (p : Fin 128) (some_ : (s.pocket p).entry.isSome = true) :
    (s.positionOf p).val ≤ 96 := by
  have formed := mech.formed p
  have stands := mech.stands p
  cases st : (s.pocket p).state
  case assigned =>
    obtain ⟨k, station⟩ := Option.isSome_iff_exists.mp (formed.holds (.inl st)).2
    have := (place.1 p k st station).1
    omega
  case fired | loaded | verified =>
    simp only [Pocket.standsAt, st] at stands
    omega
  all_goals
    unfold Pocket.formed at formed
    rw [st] at formed
    rw [formed.1] at some_
    cases some_

/-! ## Assignment (R4, R87, R88) -/

/-- The pocket record of an assignment. -/
def Pocket.assignedTo (ref : EntryRef) (st : Fin 80) : Pocket := { state := .assigned, entry := some ref, station := some st }

/-- The entry that is assigned to a pocket. -/
def Entry.assignedTo (p : Fin 128) (e : Entry) : Entry := { e with status := .assigned, pocket := some p }

/-- The queue after an assignment from a source. -/
def CandidateSource.rest (src : CandidateSource) (q : List EntryRef) : List EntryRef := if src = .queue then q.tail else q

/-- The pocket, the entry and the queue of an assignment. -/
def State.assigned (s : State) (p : Fin 128) (ref : EntryRef) (src : CandidateSource) (st : Fin 80) : State :=
  let u := (s.setPocket p (Pocket.assignedTo ref st)).modifyEntry ref (Entry.assignedTo p)
  { u with boards := { u.boards with queue := src.rest u.boards.queue } }

theorem State.fence_books (e : t.books = s.books) (ref : EntryRef) : (t.fence ref).books = (s.fence ref).books := by
  have boards : t.boards = s.boards := (congrArg (fun v : State => v.boards) e :)
  have pockets : t.chain.pockets = s.chain.pockets := (congrArg (fun v : State => v.chain.pockets) e :)
  have held : t.head.held = s.head.held := (congrArg (fun v : State => v.head.held) e :)
  unfold State.fence State.isActive
  rw [boards]
  split <;> simp only [State.books, boards, pockets, held]

theorem State.assign_books (s : State) (p : Fin 128) (ref : EntryRef) (src : CandidateSource) (st : Fin 80) :
    (s.assign p ref src st).books = ((s.assigned p ref src st).fence ref).books := by
  have starved (u : State) (c : Prop) [Decidable c] : (if c then { u with starved := none } else u).books = u.books := by
    split <;> rfl
  unfold State.assign
  refine (starved _ _).trans (State.fence_books ?_ ref)
  unfold State.assigned CandidateSource.rest
  dsimp only
  split <;> rfl

theorem Entries.assigned (h : Entries noLoose 0 s) (mech : Mech 0 s) (place : PlaceLaw s) (carried : Carried false s.boards s.conveyor)
    {src : CandidateSource} (candidate : s.candidate = some (ref, src)) (at0 : s.positionOf p = 0)
    (empty : (s.pocket p).state = .empty) (st : Fin 80) : Entries noLoose 0 (s.assigned p ref src st) := by
  have none_ := h.entry_none (p := p) (by rw [empty]; rfl)
  obtain ⟨e, found, away, head, mem, nodup, queue, room⟩ : ∃ e, s.entry? ref = some e ∧ e.status.inPocket = false
      ∧ e.status ≠ .inHead ∧ e.status.terminal = false ∧ (src.rest s.boards.queue).Nodup
      ∧ (∀ r, r ∈ src.rest s.boards.queue ↔ r ∈ s.boards.queue ∧ r ≠ ref)
      ∧ (src.rest s.boards.queue).length
        + (s.setPocket p (Pocket.assignedTo ref st)).chain.pockets.toList.countP (fun k => k.entry.isSome)
        + (if s.head.held.isSome then 1 else 0) ≤ 128 := by
    have count := countP_vset (fun q : Pocket => q.entry.isSome) s.chain.pockets p (Pocket.assignedTo ref st)
    rcases State.candidate_cases carried candidate with ⟨rfl, rest, queue⟩ | ⟨other, queue, e, found, pending⟩
    · obtain ⟨e, found, queued⟩ := (h.placed ref).queue.mp (by rw [queue]; exact List.mem_cons_self)
      have nodup := h.nodup
      have bound := h.bound
      rw [queue, List.nodup_cons] at nodup
      refine ⟨e, found, by rw [queued]; rfl, by rw [queued]; nofun, by rw [queued]; rfl, ?_⟩
      simp only [CandidateSource.rest, if_true, queue, List.tail_cons]
      refine ⟨nodup.2, fun r => ?_, ?_⟩
      · rw [List.mem_cons]
        exact ⟨fun mem => ⟨.inr mem, fun e => nodup.1 (e ▸ mem)⟩, fun ⟨mem, other⟩ => mem.resolve_left other⟩
      · simp only [State.entriesInWork, queue, List.length_cons] at bound
        simp only [show (vget s.chain.pockets p).entry = none from none_, show (Pocket.assignedTo ref st).entry.isSome = true from rfl,
          Option.isSome_none, Bool.toNat_true, Bool.toNat_false] at count
        simp only [State.setPocket]
        omega
    · refine ⟨e, found, by rw [pending]; rfl, by rw [pending]; nofun, by rw [pending]; rfl, ?_⟩
      simp only [CandidateSource.rest, if_neg other, queue]
      refine ⟨List.nodup_nil, fun r => by simp, ?_⟩
      have stand := State.holding_le (s.setPocket p (Pocket.assignedTo ref st)) fun q some_ => by
        rw [State.setPocket_positionOf]
        rw [State.pocket_setPocket_eq] at some_
        split at some_
        · next e => rw [e, at0]; decide
        · exact mech.position_le place q some_
      simp only [List.length_nil]
      split <;> omega
  have found' : (s.assigned p ref src st).entry? ref = some (e.assignedTo p) := by
    show ((s.setPocket p _).modifyEntry ref (Entry.assignedTo p)).entry? ref = _
    rw [State.entry?_modifyEntry, if_pos rfl]
    exact congrArg (Option.map _) found
  have out := (h.placed ref).out found (.inl away)
  refine h.touch (loose' := noLoose) (ref := ref) (fun r other => ?_) (fun _ _ => rfl) ?_ nodup room ?_
  · refine ((SamePlace.setPocket ?_ ?_).trans (SamePlace.modifyEntry other _)).trans (SamePlace.setQueue ?_)
    · rw [none_]; nofun
    · exact fun e => other (Option.some.inj e).symm
    · exact (queue r).trans (and_iff_left other)
  · refine EntryPlaced.carried found' rfl rfl (fun q => ?_) ?_ (fun mem => ((queue ref).mp mem).2 rfl)
      ((h.placed ref).not_held found head) rfl
    · show ((s.setPocket p _).pocket q).entry = some ref ↔ _
      rw [State.pocket_setPocket_eq]
      split
      · next e => exact iff_of_true rfl e
      · next e => exact iff_of_false (out q) e
    · show ((s.setPocket p _).pocket p).state.entryStatus? = _
      rw [State.pocket_setPocket_eq, if_pos rfl]
      rfl
  · exact State.unloadsDone_modifyEntry (s := s.setPocket p _) h.done found mem _

theorem Entries.requestAssignment (h : Entries noLoose 0 s) (mech : Mech 0 s) (place : PlaceLaw s)
    (carried : Carried false s.boards s.conveyor) (p : Fin 128) : Entries noLoose 0 (s.requestAssignment p) := by
  rcases s.requestAssignment_cases p with same | ⟨ref, src, st, e, candidate, -, at0, empty⟩
  · rw [same]; exact h
  · rw [e]
    exact ((h.assigned mech place carried candidate at0 empty st).fence ref).congr (s.assign_books p ref src st)

/-! ## The pick (R19, R143) -/

theorem Entries.takeUnowned (h : Entries loose n s) : Entries loose n s.takeUnowned := by
  unfold State.takeUnowned
  dsimp only
  split
  · exact h.congr (State.startWatch_books _ _ _)
  · exact h.congr (State.stopWatch_books _ _)

theorem Entries.completePick (h : Entries noLoose 0 s) (mech : Mech 0 s) : Entries noLoose 0 s.completePick := by
  unfold State.completePick
  dsimp only
  split
  · next picking =>
    have empty : s.head.held = none := (mech.fits.empty (by rw [picking]; rfl) (by rw [picking]; rfl)).1
    generalize e2 : State.stopWatch _ WatchId.head = u
    have books : u.books = (s.setPocket (s.pocketAt 96) Pocket.emptied).books := by
      rw [← e2, State.stopWatch_books]
      rfl
    split
    · next ref held =>
      have verified : (s.pocket (s.pocketAt 96)).state = .verified := by
        refine (mech.picked (by rw [picking]; rfl)).resolve_right fun orphan => ?_
        rw [h.entry_none (by rw [orphan]; rfl)] at held
        cases held
      obtain ⟨tight, e, found, status, at_⟩ := (h.placed ref).pocket _ held
      have was : e.status = .verified := by
        rw [verified] at status
        exact (Option.some.inj status).symm
      have found2 : u.entry? ref = some e :=
        (congrArg (fun v : State => v.entry? ref) books : u.books.entry? ref = _).trans found
      unfold State.takeEntry
      rw [found2]
      refine Entries.congr (s := { (s.setPocket (s.pocketAt 96) Pocket.emptied).modifyEntry ref Entry.toHead with
        head := { s.head with state := .pickSpanWait, held := some (heldOf ref e) } }) ?_ ?_
      · have found' : ((s.setPocket (s.pocketAt 96) Pocket.emptied).modifyEntry ref Entry.toHead).entry? ref = some e.toHead := by
          rw [State.entry?_modifyEntry, if_pos rfl]
          exact congrArg (Option.map _) found
        have toHead : e.toHead = { e with status := .inHead, pocket := none, hostRemake := false } := by
          unfold Entry.toHead
          rw [if_pos was]
        refine h.touch (loose' := noLoose) (ref := ref) (fun r other => ?_) (fun _ _ => rfl) ?_ h.nodup ?_ ?_
        · refine ((SamePlace.setPocket ?_ (by nofun)).trans (SamePlace.modifyEntry other _)).trans (SamePlace.setHead ?_)
          · rw [held]; exact fun e => other (Option.some.inj e).symm
          · refine iff_of_false (fun ⟨hd, e', same⟩ => ?_) fun ⟨hd, e', _⟩ => ?_
            · cases Option.some.inj e'
              exact other same.symm
            · rw [show s.head.held = some hd from e'] at empty; cases empty
        · refine EntryPlaced.resting (e := e.toHead) found' (by rw [toHead]) (by rw [toHead]; rfl) (fun q => ?_)
            (iff_of_false ((h.placed ref).not_queued found (by rw [was]; nofun)) (by rw [toHead]; nofun))
            (iff_of_true ⟨_, rfl, rfl⟩ (by rw [toHead])) rfl
          show ((s.setPocket _ Pocket.emptied).pocket q).entry ≠ some ref
          rw [State.pocket_setPocket_eq]
          split
          · nofun
          · next other => exact fun hq => other ((h.placed ref).unique held hq)
        · have count := countP_vset (fun q : Pocket => q.entry.isSome) s.chain.pockets (s.pocketAt 96) Pocket.emptied
          have bound := h.bound
          show s.boards.queue.length + (vset s.chain.pockets (s.pocketAt 96) Pocket.emptied).toList.countP
            (fun k => k.entry.isSome) + 1 + 0 ≤ 128
          simp only [show (vget s.chain.pockets (s.pocketAt 96)).entry = some ref from held,
            show Pocket.emptied.entry.isSome = false from rfl, Option.isSome_some, Bool.toNat_true, Bool.toNat_false] at count
          simp only [State.entriesInWork] at bound
          omega
        · exact State.unloadsDone_modifyEntry (s := s.setPocket _ Pocket.emptied) h.done found (by rw [was]; rfl) _
      · have boards : u.boards = s.boards := (congrArg (fun v : State => v.boards) books :)
        have pockets : u.chain.pockets = (s.setPocket (s.pocketAt 96) Pocket.emptied).chain.pockets :=
          (congrArg (fun v : State => v.chain.pockets) books :)
        simp only [State.books, State.modifyEntry, State.modifyBoard, boards, pockets, State.setPocket]
    · next held => exact ((h.setPocket_free held (k := Pocket.emptied) rfl).congr books).takeUnowned
  · exact h

end

end Sys2Proof.Machine

/-! PROOFS. Entries given up and boards that come and go (R63, R66, R73 to R77). -/

namespace Sys2Proof.Machine

section
variable {s t u : State} {ref : EntryRef} {e : Entry} {p : Fin 128} {k : Pocket}

/-! ## Entries given up together -/

/-- The entries of one kind hold no place any more; every other entry keeps its own. -/
structure GivenUp (gone : EntryRef → Prop) (s t : State) : Prop where
  out : ∀ r p, gone r → (t.pocket p).entry ≠ some r
  kept : ∀ r p, ¬ gone r → (s.pocket p).entry = some r → t.pocket p = s.pocket p
  fresh : ∀ r p, (t.pocket p).entry = some r → (s.pocket p).entry = some r
  rest : ∀ r e, gone r → t.entry? r = some e →
    e.pocket = none ∧ e.status.inPocket = false ∧ e.status ≠ .queued ∧ e.status ≠ .inHead
  entry : ∀ r, ¬ gone r → t.entry? r = s.entry? r
  queue : ∀ r, r ∈ t.boards.queue ↔ r ∈ s.boards.queue ∧ ¬ gone r
  shorter : t.boards.queue.Sublist s.boards.queue
  held : ∀ r, t.holds r ↔ s.holds r ∧ ¬ gone r

theorem GivenUp.samePlace {gone : EntryRef → Prop} (g : GivenUp gone s t) (h : ¬ gone ref) : SamePlace ref s t where
  pocket p := ⟨g.fresh ref p, fun held => by rw [g.kept ref p h held]; exact held⟩
  state p held := by rw [g.kept ref p h held]
  entry := g.entry ref h
  queue := (g.queue ref).trans (and_iff_left h)
  head := (g.held ref).trans (and_iff_left h)

theorem State.entriesInWork_le (fresh : ∀ r p, (t.pocket p).entry = some r → (s.pocket p).entry = some r)
    (queue : t.boards.queue.length ≤ s.boards.queue.length) (held : t.head.held.isSome = true → s.head.held.isSome = true) :
    t.entriesInWork ≤ s.entriesInWork := by
  have pockets : t.chain.pockets.toList.countP (fun k => k.entry.isSome) ≤ s.chain.pockets.toList.countP fun k => k.entry.isSome := by
    rw [toList_eq_map_vget, toList_eq_map_vget, List.countP_map, List.countP_map]
    refine List.countP_mono_left fun p _ some_ => ?_
    obtain ⟨r, at_⟩ := Option.isSome_iff_exists.mp some_
    exact Option.isSome_iff_exists.mpr ⟨r, fresh r p at_⟩
  have head : (if t.head.held.isSome then 1 else 0) ≤ if s.head.held.isSome then 1 else 0 := by
    split
    · next e => rw [if_pos (held e)]
    · exact Nat.zero_le _
  unfold State.entriesInWork
  exact Nat.add_le_add (Nat.add_le_add queue pockets) head

theorem Entries.giveUp (h : Entries noLoose 0 s) {gone : EntryRef → Prop} (g : GivenUp gone s t) (done : t.unloadsDone) :
    Entries noLoose 0 t where
  placed r := by
    by_cases lost : gone r
    · have notQueued : r ∉ t.boards.queue := fun mem => ((g.queue r).mp mem).2 lost
      have notHeld : ¬ t.holds r := fun held => ((g.held r).mp held).2 lost
      cases found : t.entry? r with
      | none => exact EntryPlaced.gone found (fun p => g.out r p lost) notQueued notHeld rfl
      | some e =>
        obtain ⟨pocket, off, queued, inHead⟩ := g.rest r e lost found
        exact EntryPlaced.resting found pocket off (fun p => g.out r p lost) (iff_of_false notQueued queued)
          (iff_of_false notHeld inHead) rfl
    · exact (h.placed r).congr (g.samePlace lost) rfl
  nodup := h.nodup.sublist g.shorter
  bound := by
    refine (State.entriesInWork_le g.fresh g.shorter.length_le fun some_ => ?_).trans h.bound
    obtain ⟨hd, held⟩ := Option.isSome_iff_exists.mp some_
    obtain ⟨hd', held', -⟩ := ((g.held hd.ref).mp ⟨hd, held, rfl⟩).1
    rw [held']
    rfl
  done := done

/-! ## The pockets of entries given up (R73, R75) -/

/-- Some pockets no longer hold an entry; the other pockets, the boards and the head are as they were. -/
structure Cleared (gone : Fin 128 → Prop) (s t : State) : Prop where
  boards : t.boards = s.boards
  held : t.head.held = s.head.held
  cleared : ∀ p, gone p → (t.pocket p).entry = none
  kept : ∀ p, ¬ gone p → t.pocket p = s.pocket p

/-- The entry's pocket is one that the entry's status describes, or holds no entry any more. -/
def State.agrees (s : State) (e : Entry) : Prop :=
  ∀ p, e.pocket = some p → (s.pocket p).entry = none ∨ (s.pocket p).state.entryStatus? = some e.status

theorem State.orphan_cases (s : State) (p : Fin 128) (c : PocketCause) :
    s.orphan p c = s.setPocket p ((s.pocket p).orphaned c)
      ∨ s.orphan p c = s ∧ (s.pocket p).state ≠ .fired ∧ (s.pocket p).state ≠ .loaded ∧ (s.pocket p).state ≠ .verified := by
  unfold State.orphan
  dsimp only
  split
  · exact .inl rfl
  · exact .inl rfl
  · exact .inl rfl
  · next f l v => exact .inr ⟨rfl, f, l, v⟩

theorem State.setPocket_cleared (e : t.books = (s.setPocket p k).books) (empty : k.entry = none) :
    Cleared (fun q => some p = some q) s t := by
  have pocket (q : Fin 128) : t.pocket q = (s.setPocket p k).pocket q := (congrArg (fun v : State => v.pocket q) e :)
  refine ⟨(congrArg (fun v : State => v.boards) e :), (congrArg (fun v : State => v.head.held) e :), fun q here => ?_,
    fun q off => ?_⟩
  · cases here
    rw [pocket, State.pocket_setPocket]
    exact empty
  · rw [pocket]
    exact State.pocket_setPocket_other _ _ _ _ fun e => off (by rw [e])

theorem Cleared.of_empty (empty : (s.pocket p).entry = none) : Cleared (fun q => some p = some q) s s :=
  ⟨rfl, rfl, fun q here => by cases here; exact empty, fun _ _ => rfl⟩

theorem State.releasePocket_cleared (agrees : s.agrees e) (c : PocketCause) :
    Cleared (fun p => e.pocket = some p) s (s.releasePocket e c) := by
  unfold State.releasePocket
  cases at_ : e.pocket with
  | none => exact ⟨rfl, rfl, nofun, fun _ _ => rfl⟩
  | some p =>
    have orphaned : (s.pocket p).entry = none ∨ (s.pocket p).state = .fired ∨ (s.pocket p).state = .loaded
        ∨ (s.pocket p).state = .verified → Cleared (fun q => some p = some q) s (s.orphan p c) := by
      intro holds
      rcases s.orphan_cases p c with e | ⟨e, f, l, v⟩
      · exact State.setPocket_cleared (congrArg State.books e) rfl
      · rw [e]
        exact Cleared.of_empty (by simpa [f, l, v] using holds)
    have state (st : PocketState) (x : EntryStatus) (ex : e.status = x) (only : ∀ y : PocketState, y.entryStatus? = some x → y = st) :
        (s.pocket p).entry = none ∨ (s.pocket p).state = st := (agrees p at_).imp_right fun status => only _ (ex ▸ status)
    dsimp only
    split
    · next assigned =>
      have books := s.withdraw_books p
      split at books
      · exact State.setPocket_cleared books rfl
      · next other =>
        have empty := (state .assigned .assigned assigned (by intro y; cases y <;> simp [PocketState.entryStatus?])).resolve_right
          other
        rw [show (s.withdraw p) = s by unfold State.withdraw; exact if_neg other]
        exact Cleared.of_empty empty
    · next st =>
      exact orphaned ((state .fired .fired st (by intro y; cases y <;> simp [PocketState.entryStatus?])).imp_right .inl)
    · next st =>
      exact orphaned ((state .loaded .loaded st (by intro y; cases y <;> simp [PocketState.entryStatus?])).imp_right
        fun h => .inr (.inl h))
    · next st =>
      exact orphaned ((state .verified .verified st (by intro y; cases y <;> simp [PocketState.entryStatus?])).imp_right
        fun h => .inr (.inr h))
    · next a f l v =>
      refine Cleared.of_empty ((agrees p at_).resolve_right fun status => ?_)
      have inPocket := PocketState.inPocket_of_entryStatus status
      revert a f l v inPocket
      cases e.status <;> simp [EntryStatus.inPocket]

theorem Cleared.agrees {gone : Fin 128 → Prop} (c : Cleared gone s t) (h : s.agrees e) : t.agrees e := fun p at_ => by
  by_cases lost : gone p
  · exact .inl (c.cleared p lost)
  · rw [c.kept p lost]
    exact h p at_

theorem State.releaseAll_cleared (c : PocketCause) (l : List Entry) (agrees : ∀ e ∈ l, s.agrees e) :
    Cleared (fun p => ∃ e ∈ l, e.pocket = some p) s (l.foldl (fun s e => s.releasePocket e c) s) := by
  induction l generalizing s with
  | nil => exact ⟨rfl, rfl, fun _ ⟨_, mem, _⟩ => (by cases mem), fun _ _ => rfl⟩
  | cons e l ih =>
    have first := State.releasePocket_cleared (agrees e List.mem_cons_self) c
    have later := ih (s := s.releasePocket e c) fun e' mem => first.agrees (agrees e' (List.mem_cons_of_mem _ mem))
    refine ⟨later.boards.trans first.boards, later.held.trans first.held, fun p ⟨e', mem, at_⟩ => ?_, fun p off => ?_⟩
    · by_cases again : ∃ e ∈ l, e.pocket = some p
      · exact later.cleared p again
      · rw [List.foldl_cons, later.kept p again]
        rcases List.mem_cons.mp mem with rfl | mem
        · exact first.cleared p at_
        · exact absurd ⟨e', mem, at_⟩ again
    · rw [List.foldl_cons, later.kept p fun ⟨e', mem, at_⟩ => off ⟨e', List.mem_cons_of_mem _ mem, at_⟩,
        first.kept p fun at_ => off ⟨e, List.mem_cons_self, at_⟩]

/-- The pocket that an entry names holds it. -/
theorem Entries.holder (h : Entries noLoose 0 s) (found : s.entry? ref = some e) (at_ : e.pocket = some p) :
    (s.pocket p).entry = some ref ∧ (s.pocket p).state.entryStatus? = some e.status := by
  obtain ⟨same, holds⟩ := (h.placed ref).entry e found
  rw [at_] at same
  obtain ⟨q, hq⟩ := holds same.symm rfl
  obtain ⟨-, e', found', status, at'⟩ := (h.placed ref).pocket q hq
  cases found.symm.trans found'
  cases at_.symm.trans at'
  exact ⟨hq, status⟩

theorem Entries.agrees (h : Entries noLoose 0 s) (found : s.entry? ref = some e) : s.agrees e := fun _ at_ =>
  .inr (h.holder found at_).2

/-! ## SKIP_STEP and DISPOSE_STEP (R73, R74) -/

theorem State.named_ok {b i m : Nat} (h : s.named b i m = .ok (ref, e)) : s.entry? ref = some e := by
  unfold State.named at h
  split at h
  · cases h
  · split at h
    · cases h
    · next r board =>
      split at h
      · cases h
      · next ref' place =>
        split at h
        · next e' entry =>
          cases h
          obtain ⟨j, -, rfl⟩ := Option.map_eq_some_iff.mp place
          obtain ⟨id, -⟩ := State.board?_eq_some board
          simp only [State.entry?, id, board, Option.bind_some]
          exact entry
        · cases h

theorem Entries.skipEntry (h : Entries noLoose 0 s) (found : s.entry? ref = some e) (inHead : e.status ≠ .inHead)
    (open_ : e.status.terminal = false) : Entries noLoose 0 (s.skipEntry ref e) := by
  have cleared := State.releasePocket_cleared (h.agrees found) .skipped
  have entry (r : EntryRef) : (s.releasePocket e .skipped).entry? r = s.entry? r :=
    State.entry?_congr (by rw [cleared.boards]) (by rw [cleared.boards]) r
  unfold State.skipEntry
  generalize s.releasePocket e .skipped = u at cleared entry
  have free (p : Fin 128) : (u.pocket p).entry ≠ some ref := by
    by_cases here : e.pocket = some p
    · rw [cleared.cleared p here]; nofun
    · rw [cleared.kept p here]
      intro held
      obtain ⟨-, e', found', -, at_⟩ := (h.placed ref).pocket p held
      cases found.symm.trans found'
      exact here at_
  refine h.giveUp (gone := fun r => r = ref) ⟨fun r p lost => by rw [lost]; exact free p, fun r p other held => ?_,
    fun r p held => ?_, fun r e' lost found' => ?_, fun r other => ?_, fun r => ?_, ?_, fun r => ?_⟩ ?_
  · refine cleared.kept p fun at_ => other ?_
    rw [(h.holder found at_).1] at held
    exact (Option.some.inj held).symm
  · change (u.pocket p).entry = some r at held
    by_cases here : e.pocket = some p
    · rw [cleared.cleared p here] at held; cases held
    · rwa [cleared.kept p here] at held
  · change (u.modifyEntry ref _).entry? r = some e' at found'
    rw [State.entry?_modifyEntry, if_pos lost, entry, lost, found] at found'
    cases found'
    exact ⟨rfl, rfl, nofun, nofun⟩
  · change (u.modifyEntry ref _).entry? r = _
    rw [State.entry?_modifyEntry, if_neg other, entry]
  · show r ∈ u.boards.queue.filter _ ↔ _
    rw [cleared.boards, List.mem_filter, decide_eq_true_eq]
  · show (u.boards.queue.filter _).Sublist _
    rw [cleared.boards]
    exact List.filter_sublist
  · show (∃ hd, u.head.held = some hd ∧ hd.ref = r) ↔ _
    rw [cleared.held]
    refine ⟨fun held => ⟨held, fun lost => ?_⟩, And.left⟩
    rw [lost] at held
    exact (h.placed ref).not_held found inHead held
  · refine State.unloadsDone_modifyEntry (s := u) (e := e) ?_ ((entry ref).trans found) open_ _
    intro b active unloading
    rw [cleared.boards] at active
    exact h.done b active unloading

theorem EntryPlaced.pocket_none {loose : EntryRef → Option EntryStatus} (h : EntryPlaced loose s ref) (found : s.entry? ref = some e)
    (off : e.status.inPocket = false) : e.pocket = none := by
  have := (h.entry e found).1
  rw [off] at this
  simpa using this

theorem Entries.accept (h : Entries noLoose 0 s) (found : s.entry? ref = some e) (failed : e.status = .failedOpen)
    {f : Entry → Entry} (pocket : (f e).pocket = none) (status : (f e).status = .failed) :
    Entries noLoose 0 (s.modifyEntry ref f) := by
  have out := (h.placed ref).out found (.inl (by rw [failed]; rfl))
  have found' : (s.modifyEntry ref f).entry? ref = some (f e) := by
    rw [State.entry?_modifyEntry, if_pos rfl, found, Option.map_some]
  exact h.touch (loose' := noLoose) (fun r other => SamePlace.modifyEntry other f) (fun _ _ => rfl)
    (EntryPlaced.resting found' pocket (by rw [status]; rfl) out
      (iff_of_false ((h.placed ref).not_queued found (by rw [failed]; nofun)) (by rw [status]; nofun))
      (iff_of_false ((h.placed ref).not_held found (by rw [failed]; nofun)) (by rw [status]; nofun)) rfl)
    h.nodup h.bound (State.unloadsDone_modifyEntry h.done found (by rw [failed]; rfl) f)

theorem Entries.remakeEntry (h : Entries noLoose 0 s) (found : s.entry? ref = some e) (failed : e.status = .failedOpen)
    (room : s.entriesInWork ≠ 128) : Entries noLoose 0 (s.remakeEntry ref) := by
  have out := (h.placed ref).out found (.inl (by rw [failed]; rfl))
  have notQueued := (h.placed ref).not_queued found (by rw [failed]; nofun)
  have notHeld := (h.placed ref).not_held found (by rw [failed]; nofun)
  have none_ := (h.placed ref).pocket_none found (by rw [failed]; rfl)
  unfold State.remakeEntry
  generalize ef : (fun e : Entry => _) = f
  obtain ⟨pocket, status⟩ : (f e).pocket = none ∧ (f e).status = .queued := by rw [← ef]; exact ⟨none_, rfl⟩
  have found' : (s.modifyEntry ref f).entry? ref = some (f e) := by
    rw [State.entry?_modifyEntry, if_pos rfl, found, Option.map_some]
  refine h.touch (loose' := noLoose) (fun r other => (SamePlace.modifyEntry other f).trans (SamePlace.setQueue ?_)) (fun _ _ => rfl)
    (EntryPlaced.resting (e := f e) found' pocket (by rw [status]; rfl) out (iff_of_true ?_ status)
      (iff_of_false notHeld (by rw [status]; nofun)) rfl) ?_ ?_ (State.unloadsDone_modifyEntry h.done found (by rw [failed]; rfl) f)
  · show r ∈ s.boards.queue ++ [ref] ↔ _
    simp [other]
    rfl
  · show ref ∈ s.boards.queue ++ [ref]
    simp
  · show (s.boards.queue ++ [ref]).Nodup
    rw [List.nodup_append]
    exact ⟨h.nodup, List.nodup_singleton _, fun a ha b hb eq => notQueued (by rw [List.mem_singleton.mp hb] at eq; rwa [← eq])⟩
  · have bound := h.bound
    show (s.boards.queue ++ [ref]).length + _ + _ + 0 ≤ 128
    rw [List.length_append, List.length_singleton]
    unfold State.entriesInWork at bound room
    show s.boards.queue.length + 1 + s.chain.pockets.toList.countP (fun k => k.entry.isSome) + (if s.head.held.isSome then 1 else 0)
      + 0 ≤ 128
    omega

/-! ## ABANDON_BOARD (R75) -/

theorem Entry.abandon_terminal (e : Entry) : e.abandon.status.terminal = true := by
  unfold Entry.abandon
  split
  · next h => exact h
  · rfl

theorem EntryStatus.off_of_terminal {x : EntryStatus} (h : x.terminal = true) : x.inPocket = false ∧ x ≠ .queued ∧ x ≠ .inHead := by
  revert h
  cases x <;> simp [EntryStatus.terminal, EntryStatus.inPocket]

/-- The board as ABANDON_BOARD leaves it. -/
def Board.abandon (b : Board) : Board := { b with abandoned := true, entries := b.entries.map Entry.abandon }

theorem State.entry?_abandon (s : State) (id : Nat) (r : EntryRef) : (s.modifyBoard id Board.abandon).entry? r
    = if r.board = id then (s.entry? r).map Entry.abandon else s.entry? r := by
  unfold State.entry?
  rw [State.board?_modifyBoard s id r.board (f := Board.abandon) fun _ => rfl]
  cases found : s.board? r.board with
  | none => simp
  | some b =>
    have same := (State.board?_eq_some found).1
    simp only [Option.map_some, Option.bind_some, same]
    split
    · exact List.getElem?_map
    · rfl

theorem State.discardNotice_books (s : State) (id : Nat) : (s.discardNotice id).books
    = ({ s with head := { s.head with held := s.head.held.filter fun hd => hd.ref.board ≠ id } } : State).books := by
  unfold State.discardNotice
  cases held : s.head.held with
  | none => simp [State.books, held]
  | some hd => by_cases e : hd.ref.board = id <;> simp [State.books, held, e, Option.filter]

theorem Entries.abandonEntries (h : Entries noLoose 0 s) {b : Board} {id : Nat} (board : s.board? id = some b) :
    Entries noLoose 0 (s.abandonEntries b) := by
  obtain ⟨same, slot⟩ := State.board?_eq_some board
  subst same
  have listed {e : Entry} (mem : e ∈ b.entries) : ∃ r : EntryRef, r.board = b.id ∧ s.entry? r = some e := by
    obtain ⟨i, found⟩ := List.mem_iff_getElem?.mp mem
    exact ⟨⟨b.id, i⟩, rfl, by simp [State.entry?, board, found]⟩
  have cleared := State.releaseAll_cleared (s := s) .abandoned b.entries fun e mem => by
    obtain ⟨r, -, found⟩ := listed mem
    exact h.agrees found
  unfold State.abandonEntries
  dsimp only
  generalize b.entries.foldl _ s = u at cleared
  have entry (r : EntryRef) : u.entry? r = s.entry? r :=
    State.entry?_congr (by rw [cleared.boards]) (by rw [cleared.boards]) r
  refine Entries.congr ?_ (State.discardNotice_books _ _)
  refine h.giveUp (gone := fun r => r.board = b.id) ⟨fun r p lost held => ?_, fun r p other held => ?_,
    fun r p held => ?_, fun r e' lost found' => ?_, fun r other => ?_, fun r => ?_, ?_, fun r => ?_⟩ ?_
  · change (u.pocket p).entry = some r at held
    by_cases here : ∃ e ∈ b.entries, e.pocket = some p
    · rw [cleared.cleared p here] at held; cases held
    · rw [cleared.kept p here] at held
      obtain ⟨-, e, found, -, at_⟩ := (h.placed r).pocket p held
      obtain ⟨b', board', found⟩ := State.entry?_eq_some found
      rw [lost, board] at board'
      cases board'
      exact here ⟨e, List.mem_of_getElem? found, at_⟩
  · refine cleared.kept p fun ⟨e, mem, at_⟩ => other ?_
    obtain ⟨r', id, found⟩ := listed mem
    rw [(h.holder found at_).1] at held
    cases held
    exact id
  · change (u.pocket p).entry = some r at held
    by_cases here : ∃ e ∈ b.entries, e.pocket = some p
    · rw [cleared.cleared p here] at held; cases held
    · rwa [cleared.kept p here] at held
  · change (u.modifyBoard b.id Board.abandon).entry? r = some e' at found'
    rw [State.entry?_abandon, if_pos lost, entry] at found'
    obtain ⟨e, found, rfl⟩ := Option.map_eq_some_iff.mp found'
    obtain ⟨off, queued, inHead⟩ := EntryStatus.off_of_terminal e.abandon_terminal
    refine ⟨?_, off, queued, inHead⟩
    unfold Entry.abandon
    split
    · next terminal => exact (h.placed r).pocket_none found (EntryStatus.off_of_terminal terminal).1
    · rfl
  · change (u.modifyBoard b.id Board.abandon).entry? r = _
    rw [State.entry?_abandon, if_neg other, entry]
  · show r ∈ u.boards.queue.filter _ ↔ _
    rw [cleared.boards, List.mem_filter, decide_eq_true_eq]
  · show (u.boards.queue.filter _).Sublist _
    rw [cleared.boards]
    exact List.filter_sublist
  · show (∃ hd, (u.head.held.filter fun hd => hd.ref.board ≠ b.id) = some hd ∧ hd.ref = r) ↔ _
    rw [cleared.held]
    simp only [Option.filter_eq_some_iff, decide_eq_true_eq]
    constructor
    · rintro ⟨hd, ⟨held, off⟩, rfl⟩
      exact ⟨⟨hd, held, rfl⟩, off⟩
    · rintro ⟨⟨hd, held, rfl⟩, off⟩
      exact ⟨hd, ⟨held, off⟩, rfl⟩
  · intro a' active unloading
    change (u.boards.active.map _) = some a' at active
    rw [cleared.boards] at active
    obtain ⟨a, was, e⟩ := Option.map_eq_some_iff.mp active
    subst e
    split
    · exact List.all_eq_true.mpr fun e mem => by
        obtain ⟨e', -, rfl⟩ := List.mem_map.mp mem
        exact e'.abandon_terminal
    · next other =>
      rw [if_neg other] at unloading
      exact h.done a was unloading

end

end Sys2Proof.Machine

/-! PROOFS. The transport and its board: what the other blocks leave of them (R63, R76, R156, R162, R164). -/

namespace Sys2Proof.Machine

/-- The transport record of a state agrees with its boards. -/
def Hauled (stale : Bool) (s : State) : Prop := Carried stale s.boards s.conveyor

/-- What the laws of the transport read. -/
def State.hauling (s : State) : Option (Nat × Phase) × Option (Nat × Phase × Bool) × TransportState × Option Nat × Bool :=
  (s.boards.active.map Board.tag, s.boards.next.map Board.slot, s.conveyor.state, s.conveyor.board, s.conveyor.unloadRequest)

section
variable {s t : State} {stale : Bool}

theorem Hauled.congr (h : Hauled stale s) (e : t.hauling = s.hauling) : Hauled stale t := by
  simp only [State.hauling, Prod.mk.injEq] at e
  obtain ⟨active, next, state, board, request⟩ := e
  have tagged := Carried.retag h active next
  refine ⟨tagged.next, ?_, ?_, ?_, ?_⟩
  · rw [request, state]; exact tagged.unload
  · rw [state, board]; exact tagged.empty
  · rw [state, board]; exact tagged.board
  · rw [state]; exact tagged.phase

theorem State.hauling_of_core (e : t.core = s.core) : t.hauling = s.hauling :=
  (congrArg State.hauling e : t.core.hauling = s.core.hauling)

theorem Hauled.ofCore (h : Hauled stale s) (e : t.core = s.core) : Hauled stale t := h.congr (State.hauling_of_core e)

theorem foldl_hauling {α : Type} {f : State → α → State} (hf : ∀ s a, (f s a).hauling = s.hauling) (l : List α) (s : State) :
    (l.foldl f s).hauling = s.hauling := by
  induction l generalizing s with
  | nil => rfl
  | cons a l ih => exact (ih _).trans (hf s a)

@[simp] theorem State.startWatch_hauling (s : State) (w : WatchId) (n : Nat) : (s.startWatch w n).hauling = s.hauling :=
  State.hauling_of_core (State.startWatch_core _ _ _)

@[simp] theorem State.stopWatch_hauling (s : State) (w : WatchId) : (s.stopWatch w).hauling = s.hauling :=
  State.hauling_of_core (State.stopWatch_core _ _)

@[simp] theorem State.haltWatch_hauling (s : State) (w : WatchId) : (s.haltWatch w).hauling = s.hauling :=
  State.hauling_of_core (State.haltWatch_core _ _)

@[simp] theorem State.raise_warn_hauling (s : State) (src : Source) (x : Context) :
    (s.raise src .warn x).hauling = s.hauling := State.hauling_of_core (State.raise_warn_core _ _ _)

/-- A change of boards that keeps what the transport reads of each. -/
theorem State.modifyBoard_hauling (s : State) (id : Nat) {f : Board → Board} (slot : ∀ b, (f b).slot = b.slot) :
    (s.modifyBoard id f).hauling = s.hauling := by
  have same (b : Board) : (if b.id = id then f b else b).slot = b.slot := by split <;> simp [slot]
  have tag (b : Board) : (if b.id = id then f b else b).tag = b.tag :=
    congrArg (fun x : Nat × Phase × Bool => (x.1, x.2.1)) (same b)
  simp only [State.hauling, State.modifyBoard, Option.map_map]
  rw [show (Board.tag ∘ fun b => if b.id = id then f b else b) = Board.tag from funext tag,
    show (Board.slot ∘ fun b => if b.id = id then f b else b) = Board.slot from funext same]

@[simp] theorem State.modifyEntry_hauling (s : State) (ref : EntryRef) (f : Entry → Entry) :
    (s.modifyEntry ref f).hauling = s.hauling := s.modifyBoard_hauling _ fun _ => rfl

@[simp] theorem State.moveEntry_hauling (s : State) (ref : EntryRef) (old new : EntryStatus) :
    (s.moveEntry ref old new).hauling = s.hauling := s.modifyEntry_hauling _ _

@[simp] theorem State.setPocket_hauling (s : State) (p : Fin 128) (k : Pocket) : (s.setPocket p k).hauling = s.hauling := rfl

theorem State.hauling_elim {α : Type} {o : Option α} {f : α → State} (hf : ∀ a, (f a).hauling = s.hauling) :
    (o.elim s f).hauling = s.hauling := by
  cases o with
  | none => rfl
  | some a => exact hf a

/-! ## Raises (R164, R180, R191) -/

theorem State.noticeOutcome_hauling (s : State) (ref : EntryRef) (o : HeadOutcome) :
    (s.noticeOutcome ref o).hauling = s.hauling := by
  unfold State.noticeOutcome
  split
  · rfl
  · split
    · exact State.modifyEntry_hauling _ _ _
    · rfl

theorem State.failHeld_hauling (s : State) (c : EntryCause) (m : Bool) : (s.failHeld c m).hauling = s.hauling := by
  unfold State.failHeld
  split
  · rfl
  · exact s.noticeOutcome_hauling _ _

theorem State.insertHeld_hauling (s : State) : s.insertHeld.hauling = s.hauling := by
  unfold State.insertHeld
  split
  · rfl
  · exact s.noticeOutcome_hauling _ _

theorem State.unclinchHeld_hauling (s : State) : s.unclinchHeld.hauling = s.hauling := by
  unfold State.unclinchHeld
  split
  · rfl
  · exact s.noticeOutcome_hauling _ _

theorem State.giveUpHeld_hauling (s : State) : s.giveUpHeld.hauling = s.hauling := by
  unfold State.giveUpHeld
  split
  · exact s.failHeld_hauling _ _
  · exact s.failHeld_hauling _ _
  · rfl

theorem State.haltHead_hauling (s : State) : s.haltHead.hauling = s.hauling := by
  unfold State.haltHead
  dsimp only
  split
  · rfl
  · refine (State.hauling_of_core (State.noticeHalted_core _ _)).trans ((State.haltWatch_hauling _ _).trans ?_)
    exact s.giveUpHeld_hauling

theorem State.abandonMeasurement_hauling (s : State) : s.abandonMeasurement.hauling = s.hauling := by
  unfold State.abandonMeasurement
  split <;> rfl

/-- The transport passes from one state to another that works for the same phase of its board. -/
theorem Hauled.pass (h : Hauled stale s) {c : Conveyor} (e : t.hauling = ({ s with conveyor := c } : State).hauling)
    (board : c.board = s.conveyor.board) (request : c.unloadRequest = true → s.conveyor.unloadRequest = true ∧ c.state = .clamped)
    (old : s.conveyor.state ≠ .empty) (new : c.state ≠ .empty)
    (phase : ∀ a, s.boards.active = some a → s.conveyor.state.serves a.phase = true → c.state.serves a.phase = true)
    (fresh : s.conveyor.state ≠ .entryWait) : Hauled stale t :=
  Hauled.congr (s := { s with conveyor := c }) (Carried.pass h board request old new phase fun _ _ => fresh) e

theorem Hauled.no_request (h : Hauled stale s) (st : s.conveyor.state ≠ .clamped) : s.conveyor.unloadRequest = false := by
  by_contra req
  rw [Bool.not_eq_false] at req
  exact st (h.unload req).1

theorem TransportState.serves_entryRun (x y x' y' : Bool) (p : Phase) :
    (TransportState.entryRun x y).serves p = (TransportState.entryRun x' y').serves p := by cases p <;> rfl

theorem TransportState.serves_unloading (x y x' y' : Bool) (p : Phase) :
    (TransportState.unloading x y).serves p = (TransportState.unloading x' y').serves p := by cases p <;> rfl

theorem Hauled.haltConveyor (h : Hauled stale s) : Hauled stale s.haltConveyor := by
  unfold State.haltConveyor
  split
  · next run =>
    have quiet := h.no_request (by rw [run]; nofun)
    exact h.pass (State.haltWatch_hauling _ _) rfl (fun req => by rw [show s.conveyor.unloadRequest = true from req] at quiet; cases quiet)
      (by rw [run]; nofun) (by nofun) (fun a _ serves => by rw [run] at serves; rw [← serves]; exact TransportState.serves_entryRun _ _ _ _ _) (by rw [run]; nofun)
  · next run =>
    have quiet := h.no_request (by rw [run]; nofun)
    exact h.pass (State.haltWatch_hauling _ _) rfl (fun req => by rw [show s.conveyor.unloadRequest = true from req] at quiet; cases quiet)
      (by rw [run]; nofun) (by nofun) (fun a _ serves => by rw [run] at serves; rw [← serves]; exact TransportState.serves_unloading _ _ _ _ _) (by rw [run]; nofun)
  · exact h

theorem Hauled.enterStopped (h : Hauled stale s) (c : LineCause) : Hauled stale (s.enterStopped c) := by
  have lined := h.ofCore (s.setLine_core .stopped c)
  have stopped := ((lined.congr (State.abandonMeasurement_hauling _)).ofCore (State.stopTable_core _)).congr
    (State.haltHead_hauling _)
  exact (stopped.ofCore (State.stopSpan_core _)).haltConveyor

theorem Hauled.raise (h : Hauled stale s) (src : Source) (c : AlarmClass) (x : Context) : Hauled stale (s.raise src c x) := by
  have recorded := h.ofCore (s.recordRaise_core src c x)
  unfold State.raise
  split
  · exact h
  · unfold State.lineEffect
    split
    · exact recorded.ofCore (State.setLine_core _ _ _)
    · split
      · exact recorded.enterStopped _
      · exact recorded

/-! ## Stations and pockets (R33 to R35, R69, R114) -/

theorem State.fallBack_hauling (s : State) (ref : EntryRef) (c : Bool) (k : Option (Fin 80)) :
    (s.fallBack ref c k).hauling = s.hauling := by
  unfold State.fallBack State.raiseMissed
  split
  · split
    · split
      · rw [State.raise_warn_hauling, State.modifyEntry_hauling]
      · split
        · rw [State.raise_warn_hauling, State.modifyEntry_hauling]
        · exact State.modifyEntry_hauling _ _ _
    · rfl
  · rfl

theorem State.withdraw_hauling (s : State) (p : Fin 128) : (s.withdraw p).hauling = s.hauling := by
  unfold State.withdraw
  dsimp only
  split
  · split
    · exact (State.hauling_of_core (State.lowerPending_unread _ _).core).trans (State.setPocket_hauling s _ _)
    · rfl
  · rfl

theorem State.withdrawAt_hauling (k : Fin 80) (s : State) (q : Fin 128) : (s.withdrawAt k q).hauling = s.hauling := by
  unfold State.withdrawAt
  dsimp only
  split
  · split
    · rw [State.fallBack_hauling, State.withdraw_hauling]
    · exact s.withdraw_hauling _
  · rfl

theorem Hauled.takeOut (h : Hauled stale s) (k : Fin 80) (new : StationState) :
    Hauled stale ((s.moveStation k new).withdrawStation k) :=
  (h.ofCore (s.moveStation_unread k new).core).congr (foldl_hauling (State.withdrawAt_hauling k) _ _)

theorem Hauled.quarantine (h : Hauled stale s) (k : Fin 80) : Hauled stale (s.quarantine k) := by
  unfold State.quarantine
  refine Hauled.raise ?_ _ _ _
  split
  case h_5 => exact h
  all_goals exact h.takeOut k _

theorem Hauled.misfeed (h : Hauled stale s) (k : Fin 80) : Hauled stale (s.misfeed k) := by
  unfold State.misfeed
  split
  case h_6 => exact h
  case h_4 | h_5 => exact h.raise _ _ _
  all_goals exact (h.takeOut k _).raise _ _ _

theorem Hauled.failNotice (h : Hauled stale s) (k : Fin 80) : Hauled stale (s.failNotice k) := by
  unfold State.failNotice
  dsimp only
  split
  · exact Hauled.quarantine (h.ofCore (State.setStation_core _ _ _)) k
  · exact h.ofCore (State.setStation_core _ _ _)

theorem State.orphan_hauling (s : State) (p : Fin 128) (c : PocketCause) : (s.orphan p c).hauling = s.hauling := by
  rcases s.orphan_cases p c with e | ⟨e, -⟩ <;> rw [e]
  rfl

theorem State.releasePocket_hauling (s : State) (e : Entry) (c : PocketCause) : (s.releasePocket e c).hauling = s.hauling := by
  unfold State.releasePocket
  split
  · rfl
  · split
    · exact s.withdraw_hauling _
    · exact s.orphan_hauling _ _
    · exact s.orphan_hauling _ _
    · exact s.orphan_hauling _ _
    · rfl

theorem State.skipEntry_hauling (s : State) (ref : EntryRef) (e : Entry) : (s.skipEntry ref e).hauling = s.hauling :=
  (State.modifyEntry_hauling _ _ _).trans (s.releasePocket_hauling e _)

theorem State.remakeEntry_hauling (s : State) (ref : EntryRef) : (s.remakeEntry ref).hauling = s.hauling :=
  State.modifyEntry_hauling _ _ _

theorem State.discardNotice_hauling (s : State) (id : Nat) : (s.discardNotice id).hauling = s.hauling := by
  unfold State.discardNotice
  split
  · split <;> rfl
  · rfl

theorem State.abandonEntries_hauling (s : State) (b : Board) : (s.abandonEntries b).hauling = s.hauling := by
  refine (State.discardNotice_hauling _ _).trans (Eq.trans ?_
    (foldl_hauling (fun s e => s.releasePocket_hauling e .abandoned) b.entries s))
  exact State.modifyBoard_hauling _ b.id (f := Board.abandon) fun _ => rfl

/-! ## Measurements, assignment and fires (R87 to R91, R110 to R115) -/

theorem Hauled.judgePocket (h : Hauled stale s) (m : Measurement) (r : VerifyResult) (reading : Option Nat) :
    Hauled stale (s.judgePocket m r reading) := by
  have rejected (r : VerifyResult) : Hauled stale (s.rejectPocket m r reading) :=
    inOrder3_keeps (P := Hauled stale) _ (fun u hu => hu.congr (u.fallBack_hauling _ _ _)) (fun u hu => hu.failNotice _)
      (fun u hu => Hauled.raise hu _ _ _)
      (h.congr (s.setPocket_hauling m.pocket { state := .rejected, result := some r, cause := some .verify }))
  unfold State.judgePocket
  split
  · refine h.congr ((State.hauling_of_core (State.setStation_core _ _ _)).trans ?_)
    exact (State.moveEntry_hauling _ _ _ _).trans (State.setPocket_hauling _ _ _)
  · exact rejected _
  · exact h
  · exact h

theorem Hauled.completeMeasurement (h : Hauled stale s) (forward reverse : Nat) :
    Hauled stale (s.completeMeasurement forward reverse) := by
  unfold State.completeMeasurement
  split
  · exact h
  · split
    · next m _ _ =>
      have released (j : Judgement) : Hauled stale (State.recordJudgement { s with verifier := s.verifier.release } j) := h
      exact (released _).judgePocket m _ _
    · exact h

theorem State.startMeasurement_hauling (s : State) : s.startMeasurement.hauling = s.hauling := by
  have passed (p : Fin 128) (ref : EntryRef) (k : Fin 80) (code : Nat) (kind : VerifyKind) :
      (s.passUnmeasured p ref k code kind).hauling = s.hauling :=
    (State.moveEntry_hauling _ _ _ _).trans (State.setPocket_hauling _ _ _)
  unfold State.startMeasurement
  dsimp only
  split
  · split
    · split
      · rfl
      · split
        · exact passed _ _ _ _ _
        · split
          · exact passed _ _ _ _ _
          · rfl
    · rfl
  · rfl

theorem State.fence_hauling (s : State) (ref : EntryRef) : (s.fence ref).hauling = s.hauling := by
  unfold State.fence
  split
  · rfl
  · simp only [State.hauling, Option.map_map]
    rfl

theorem State.assign_hauling (s : State) (p : Fin 128) (ref : EntryRef) (src : CandidateSource) (k : Fin 80) :
    (s.assign p ref src k).hauling = s.hauling := by
  have starved (u : State) (c : Prop) [Decidable c] : (if c then { u with starved := none } else u).hauling = u.hauling := by
    split <;> rfl
  unfold State.assign
  refine (starved _ _).trans ((State.fence_hauling _ _).trans ?_)
  split
  all_goals exact State.modifyEntry_hauling (s.setPocket p { state := .assigned, entry := some ref, station := some k }) ref _

theorem State.requestAssignment_hauling (s : State) (p : Fin 128) : (s.requestAssignment p).hauling = s.hauling := by
  rcases s.requestAssignment_cases p with same | ⟨ref, src, k, e, -⟩
  · rw [same]
  · rw [e, State.assign_hauling]

theorem State.fire_hauling (s : State) (k : Fin 80) : (s.fire k).hauling = s.hauling := by
  unfold State.fire
  split
  · unfold State.fireInto
    dsimp only
    split
    · rw [State.raise_warn_hauling]
      split
      · exact (State.moveEntry_hauling _ _ _ _).trans (State.setPocket_hauling _ _ _)
      · rfl
    · split
      · exact (State.moveEntry_hauling _ _ _ _).trans (State.setPocket_hauling _ _ _)
      · rfl
  · rfl

theorem State.fireAll_hauling (s : State) : s.fireAll.hauling = s.hauling := foldl_hauling State.fire_hauling _ s

/-! ## The index and the gate (R11 to R18) -/

theorem Hauled.misfeedNotices (h : Hauled stale s) (v : Pocket) : Hauled stale (s.misfeedNotices v) := by
  have toStc {u : State} (hu : Hauled stale u) : Hauled stale (v.station.elim u u.misfeed) := by
    cases v.station with
    | none => exact hu
    | some st => exact hu.misfeed st
  have toBdq (u : State) : (v.entry.elim u fun ref => u.fallBack ref true v.station).hauling = u.hauling :=
    State.hauling_elim fun _ => u.fallBack_hauling _ _ _
  unfold State.misfeedNotices
  dsimp only
  split
  · exact toStc ((h.ofCore s.draw_core).congr (toBdq s.draw))
  · exact (toStc (h.ofCore s.draw_core)).congr (toBdq _)

theorem Hauled.checkPresence (h : Hauled stale s) (seen : Bool) : Hauled stale (s.checkPresence seen) := by
  unfold State.checkPresence
  dsimp only
  split
  · refine h.congr (t := Option.elim _ _ _) (Eq.trans (State.hauling_elim fun _ => State.moveEntry_hauling _ _ _ _) ?_)
    exact State.setPocket_hauling _ _ _
  · exact (h.congr (State.setPocket_hauling _ _ _)).misfeedNotices _
  · refine h.congr (Eq.trans (State.hauling_of_core (State.draw_core _)) ((State.raise_warn_hauling _ _ _).trans ?_))
    exact State.setPocket_hauling _ _ _
  · exact h
  · exact h

theorem Hauled.completeIndex (h : Hauled stale s) (seen : Bool) : Hauled stale (s.completeIndex seen) := by
  have checked {u : State} (hu : Hauled stale u) : Hauled stale (u.checkAndFire seen) := by
    unfold State.checkAndFire
    split
    · exact Hauled.checkPresence ((hu.ofCore u.draw_core).congr (State.fireAll_hauling _)) seen
    · exact (Hauled.checkPresence (hu.ofCore u.draw_core) seen).congr (State.fireAll_hauling _)
  rw [State.completeIndex_eq]
  split
  · have advanced : Hauled stale s.advanced := h.congr rfl
    exact (checked (advanced.ofCore (State.stopWatch_core _ _))).congr (State.startMeasurement_hauling _)
  · exact h

theorem State.driveIndex_hauling (s : State) : s.driveIndex.hauling = s.hauling := State.startWatch_hauling _ _ _

theorem State.requestIndex_hauling (s : State) : s.requestIndex.hauling = s.hauling := by
  unfold State.requestIndex
  split
  · exact s.driveIndex_hauling
  · rfl

theorem State.recoverIndex_hauling (s : State) : s.recoverIndex.hauling = s.hauling := by
  unfold State.recoverIndex
  split
  · exact s.driveIndex_hauling
  · rfl

theorem State.interruptIndex_hauling (s : State) : s.interruptIndex.hauling = s.hauling := by
  unfold State.interruptIndex
  split
  · exact State.haltWatch_hauling _ _
  · rfl

theorem State.startStroke_hauling (s : State) : s.startStroke.hauling = s.hauling := by
  unfold State.startStroke
  split
  · exact State.startWatch_hauling _ _ _
  · rfl

theorem State.completeStroke_hauling (s : State) : s.completeStroke.hauling = s.hauling := by
  unfold State.completeStroke
  split
  · rfl
  · exact State.stopWatch_hauling _ _

end

end Sys2Proof.Machine

/-! PROOFS. The board conveyor and the boards: the pockets, the head, the entries and the transport are kept together (R63, R76, R77,
R156 to R164). -/

namespace Sys2Proof.Machine

/-- The laws of the pockets, the strokes, the head, the transport and the entries. -/
structure Placed (stale : Bool) (s : State) : Prop where
  mech : Mech 0 s
  hauled : Hauled stale s
  entries : Entries noLoose 0 s

section
variable {s t : State} {stale stale' : Bool}

theorem Placed.ofCore (h : Placed stale s) (e : t.core = s.core) : Placed stale t :=
  ⟨h.mech.ofCore e, h.hauled.ofCore e, h.entries.ofCore e⟩

theorem Placed.raise (h : Placed stale s) (src : Source) (c : AlarmClass) (x : Context) : Placed stale (s.raise src c x) :=
  ⟨h.mech.raise src c x, h.hauled.raise src c x, h.entries.raise src c x⟩

/-- A change of the transport record alone. -/
theorem Placed.withConveyor (h : Placed stale s) {c : Conveyor} (e : t.core = ({ s with conveyor := c } : State).core)
    (carried : Carried stale' s.boards c) : Placed stale' t :=
  Placed.ofCore (s := { s with conveyor := c }) ⟨h.mech.congr rfl, carried, h.entries.congr rfl⟩ e

theorem Placed.active (h : Placed false s) (busy : s.conveyor.state ≠ .empty) :
    ∃ a, s.boards.active = some a ∧ s.conveyor.board = some a.id := h.hauled.board busy nofun

theorem State.setPhase_core (e : t.core = s.core) (id : Nat) (p : Phase) : (t.setPhase id p).core = (s.setPhase id p).core :=
  (congrArg (fun v : State => (v.setPhase id p).core) e : (t.core.setPhase id p).core = (s.core.setPhase id p).core)

theorem Entries.setPhase (h : Entries noLoose 0 s) (id : Nat) {p : Phase} (other : p ≠ .unloading) :
    Entries noLoose 0 (s.setPhase id p) := by
  have list : (Board.list ∘ fun b => if b.id = id then { b with phase := p } else b) = Board.list := by
    funext b
    show Board.list (if b.id = id then { b with phase := p } else b) = _
    split <;> rfl
  refine h.retag ?_ ?_ rfl fun a' active unloading => ?_
  · rw [Option.map_map, list]
  · rw [Option.map_map, list]
  · obtain ⟨a, was, e⟩ := Option.map_eq_some_iff.mp active
    subst e
    split at unloading
    · exact absurd unloading other
    · next off =>
      rw [if_neg off]
      exact h.done a was unloading

/-- The transport and its board go on to the next phase together (R76, R160, R161). -/
theorem Placed.setPhase (h : Placed false s) (busy : s.conveyor.state ≠ .empty) {id : Nat} (board : s.conveyor.board = some id)
    (quiet : s.conveyor.state ≠ .clamped) {c : Conveyor} {p : Phase}
    (e : t.core = (({ s with conveyor := c } : State).setPhase id p).core) (same : c.board = s.conveyor.board)
    (request : c.unloadRequest = s.conveyor.unloadRequest) (new : c.state ≠ .empty) (serves : c.state.serves p = true)
    (other : p ≠ .unloading) : Placed false t := by
  obtain ⟨a, active, at_⟩ := h.active busy
  cases at_.symm.trans board
  have active' : (({ s with conveyor := c } : State).setPhase a.id p).boards.active = some { a with phase := p } := by
    show s.boards.active.map _ = _
    rw [active, Option.map_some, if_pos rfl]
  refine Placed.ofCore (s := ({ s with conveyor := c } : State).setPhase a.id p) ⟨h.mech.congr rfl, ?_, ?_⟩ e
  · refine ⟨fun n' next => ?_, fun req => ?_, fun e => absurd e new, fun _ _ => ⟨_, active', same.trans board⟩, fun a' e => ?_⟩
    · obtain ⟨n, was, e⟩ := Option.map_eq_some_iff.mp next
      obtain ⟨phase, fenced, a', was', differs⟩ := h.hauled.next n was
      cases active.symm.trans was'
      rw [if_neg fun e => differs e.symm] at e
      subst e
      exact ⟨phase, fenced, _, active', differs⟩
    · have := h.hauled.no_request quiet
      rw [← request, show c.unloadRequest = true from req] at this
      cases this
    · cases active'.symm.trans e
      exact serves
  · exact Entries.setPhase (s := { s with conveyor := c }) (h.entries.congr rfl) _ other

/-! ## The waits of the transport and its runs (R159 to R161, R174) -/

theorem State.reportCleared_core (s : State) (w : Nat) (b : Option BoardWait) : (s.reportCleared w b).core = s.core :=
  State.emit_core _ _ _

theorem State.endTransportWait_core (s : State) : s.endTransportWait.core = s.core := by
  unfold State.endTransportWait
  dsimp only
  split
  · exact s.reportCleared_core _ _
  · rfl

theorem State.beginTransportWait_core (s : State) (id : Nat) : (s.beginTransportWait id).core = s.core := rfl

/-- The transport as the entry run starts. -/
def Conveyor.running (c : Conveyor) : Conveyor := { c with state := .entryRun false false }

theorem Placed.startEntryRun (h : Placed false s) (waiting : s.conveyor.state = .entryWait) : Placed false s.startEntryRun := by
  obtain ⟨a, -, board⟩ := h.active (by rw [waiting]; nofun)
  have core (out : ConveyorOutputs) : (State.startWatch
      { s with conveyor := { s.conveyor with state := .entryRun false false, outputs := out } } .conveyor
      (s.timeout .conveyor)).endTransportWait.core = ({ s with conveyor := s.conveyor.running } : State).core :=
    (State.endTransportWait_core _).trans (State.startWatch_core _ _ _)
  unfold State.startEntryRun
  dsimp only
  generalize eu : State.endTransportWait _ = u
  have u_core := eu ▸ core { s.conveyor.outputs with entryRun := true }
  have u_board : u.conveyor.board = some a.id := (congrArg (fun v : State => v.conveyor.board) u_core :).trans board
  rw [u_board]
  exact h.setPhase (by rw [waiting]; nofun) board (by rw [waiting]; nofun) (State.setPhase_core u_core _ _) rfl rfl (by nofun) rfl
    (by nofun)

theorem Placed.judgeEntryRun (h : Placed false s) : Placed false s.judgeEntryRun := by
  unfold State.judgeEntryRun
  split
  · next due =>
    simp only [State.entryRunDue, Bool.and_eq_true, decide_eq_true_eq] at due
    exact h.startEntryRun due.1.1
  · exact h

theorem Placed.startLoad (h : Placed false s) : Placed false s.startLoad := by
  unfold State.startLoad
  split
  · next b due active =>
    simp only [State.loadDue, active, Option.any_some, Bool.and_eq_true, decide_eq_true_eq] at due
    have waiting := due.1.1.1.1.1
    have empty := due.1.1.1.1.2
    have quiet := h.hauled.no_request (by rw [empty]; nofun)
    have entered : Placed false ({ s with conveyor := { s.conveyor with state := .entryWait, board := some b.id } } : State) := by
      refine h.withConveyor rfl ⟨h.hauled.next, fun req => ?_, nofun, fun _ _ => ⟨b, active, rfl⟩, fun a e => ?_⟩
      · rw [show s.conveyor.unloadRequest = true from req] at quiet; cases quiet
      · cases active.symm.trans e
        rw [waiting]
        rfl
    dsimp only
    split
    · exact entered.startEntryRun rfl
    · exact entered.ofCore (State.beginTransportWait_core _ _)
  · exact h

/-- The transport passes from one state to another that works for the same phase of its board. -/
theorem Placed.pass (h : Placed stale s) {c : Conveyor} (e : t.core = ({ s with conveyor := c } : State).core)
    (board : c.board = s.conveyor.board) (request : c.unloadRequest = true → s.conveyor.unloadRequest = true ∧ c.state = .clamped)
    (old : s.conveyor.state ≠ .empty) (new : c.state ≠ .empty)
    (phase : ∀ a, s.boards.active = some a → s.conveyor.state.serves a.phase = true → c.state.serves a.phase = true)
    (fresh : s.conveyor.state ≠ .entryWait) : Placed stale t :=
  h.withConveyor e (Carried.pass h.hauled board request old new phase fun _ _ => fresh)

/-- The transport passes on while no unload is requested. -/
theorem Placed.move (h : Placed stale s) {c : Conveyor} (e : t.core = ({ s with conveyor := c } : State).core)
    (board : c.board = s.conveyor.board) (request : c.unloadRequest = s.conveyor.unloadRequest)
    (quiet : s.conveyor.state ≠ .clamped) (old : s.conveyor.state ≠ .empty) (new : c.state ≠ .empty)
    (phase : ∀ p, s.conveyor.state.serves p = true → c.state.serves p = true)
    (fresh : s.conveyor.state ≠ .entryWait) : Placed stale t :=
  h.pass e board (fun req => by rw [request, h.hauled.no_request quiet] at req; cases req) old new (fun _ _ => phase _) fresh

theorem Placed.startUnload (h : Placed false s) : Placed false s.startUnload := by
  unfold State.startUnload
  split
  · next due =>
    simp only [State.unloadDue, Bool.and_eq_true, decide_eq_true_eq] at due
    have clamped := due.1.1.1.1.1
    obtain ⟨-, a, active, unloading⟩ := h.hauled.unload due.1.1.1.1.2
    refine h.pass rfl rfl nofun (by rw [clamped]; nofun) (by nofun) (fun a' e _ => ?_) (by rw [clamped]; nofun)
    cases active.symm.trans e
    rw [unloading]
    rfl
  · exact h

theorem Placed.runExit (h : Placed false s) (seen : Bool)
    (st : s.conveyor.state = .tableWait ∨ ∃ x y, s.conveyor.state = .unloading x y) : Placed false (s.runExit seen) := by
  obtain ⟨quiet, old, fresh, phase⟩ : s.conveyor.state ≠ .clamped ∧ s.conveyor.state ≠ .empty ∧ s.conveyor.state ≠ .entryWait
      ∧ ∀ p, s.conveyor.state.serves p = true → (TransportState.unloading false seen).serves p = true := by
    rcases st with e | ⟨x, y, e⟩ <;> rw [e] <;>
      exact ⟨nofun, nofun, nofun, fun p => by cases p <;> simp [TransportState.serves]⟩
  exact h.move (State.startWatch_core _ _ _) rfl rfl quiet old (by nofun) phase fresh

theorem Placed.startExitRun (h : Placed false s) : Placed false s.startExitRun := by
  unfold State.startExitRun
  split
  · next due =>
    simp only [State.exitRunDue, Bool.and_eq_true, decide_eq_true_eq] at due
    exact h.runExit _ (.inl due.1.1)
  · exact h

theorem Placed.endEntryRun (h : Placed false s) {x y : Bool} (run : s.conveyor.state = .entryRun x y) :
    Placed false s.endEntryRun := by
  refine h.move (State.stopWatch_core _ _) rfl rfl (by rw [run]; nofun) (by rw [run]; nofun) (by nofun) (fun p => ?_)
    (by rw [run]; nofun)
  rw [run]
  cases p <;> simp [TransportState.serves]

theorem Placed.stopSensorArrival (h : Placed false s) (made : Bool) : Placed false (s.stopSensorArrival made) := by
  have seen : Placed false ({ s with pins := { s.pins with stopSensor := made } } : State) := h.ofCore rfl
  unfold State.stopSensorArrival
  dsimp only
  split
  · next run => exact seen.endEntryRun run
  · next run =>
    refine h.move rfl rfl rfl (by rw [run]; nofun) (by rw [run]; nofun) (by nofun) (fun p => ?_) (by rw [run]; nofun)
    rw [run]
    cases p <;> simp [TransportState.serves]
  · exact seen

theorem Placed.confirmClamp (h : Placed false s) (clamping : s.conveyor.state = .clamping) : Placed false s.confirmClamp := by
  obtain ⟨a, -, board⟩ := h.active (by rw [clamping]; nofun)
  unfold State.confirmClamp
  dsimp only
  rw [board]
  exact h.setPhase (by rw [clamping]; nofun) board (by rw [clamping]; nofun) (State.emit_core _ _ _) board.symm
    rfl (by nofun) rfl (by nofun)

theorem Placed.clampClosedArrival (h : Placed false s) (made : Bool) : Placed false (s.clampClosedArrival made) := by
  have seen : Placed false ({ s with pins := { s.pins with clampClosed := made } } : State) := h.ofCore rfl
  unfold State.clampClosedArrival
  dsimp only
  split
  · next due => exact seen.confirmClamp due.2
  · exact seen

theorem Placed.clampOpenArrival (h : Placed false s) (made : Bool) : Placed false (s.clampOpenArrival made) := by
  unfold State.clampOpenArrival
  dsimp only
  split
  · next due =>
    have st : s.conveyor.state = .unclamping := due.2
    refine h.move rfl rfl rfl (by rw [st]; nofun) (by rw [st]; nofun) (by nofun) (fun p => ?_) (by rw [st]; nofun)
    rw [st]
    cases p <;> simp [TransportState.serves]
  · exact h.ofCore rfl

end

end Sys2Proof.Machine

/-! PROOFS. Boards that are announced, completed, abandoned and unloaded (R64, R75 to R78, R159, R163). -/

namespace Sys2Proof.Machine

section
variable {s t : State} {stale stale' : Bool} {b : Board} {c : Conveyor}

/-! ## Boards that go (R75, R77) -/

/-- A board whose entries are all terminal goes, and every other entry stays where it is listed. -/
theorem Entries.remove (h : Entries noLoose 0 s) {id : Nat} (closed : ∀ r e, r.board = id → s.entry? r = some e → e.status.terminal = true)
    {bs : Boards} (queue : bs.queue = s.boards.queue)
    (lost : ∀ r, r.board = id → ({ s with boards := bs } : State).entry? r = none)
    (kept : ∀ r, r.board ≠ id → ({ s with boards := bs } : State).entry? r = s.entry? r)
    (done : ({ s with boards := bs } : State).unloadsDone) : Entries noLoose 0 { s with boards := bs } := by
  have off (r : EntryRef) (gone : r.board = id) {e : Entry} (found : s.entry? r = some e) :=
    EntryStatus.off_of_terminal (closed r e gone found)
  refine h.giveUp (gone := fun r => r.board = id) ⟨fun r p gone held => ?_, fun _ _ _ _ => rfl, fun _ _ held => held,
    fun r e gone found => ?_, kept, fun r => ?_, ?_, fun r => ⟨fun held => ⟨held, fun gone => ?_⟩, And.left⟩⟩ done
  · obtain ⟨-, e, found, status, -⟩ := (h.placed r).pocket p held
    have inPocket := PocketState.inPocket_of_entryStatus status
    rw [(off r gone found).1] at inPocket
    cases inPocket
  · rw [lost r gone] at found
    cases found
  · show r ∈ bs.queue ↔ _
    rw [queue]
    refine ⟨fun mem => ⟨mem, fun gone => ?_⟩, And.left⟩
    obtain ⟨e, found, queued⟩ := (h.placed r).queue.mp mem
    exact (off r gone found).2.1 queued
  · show bs.queue.Sublist _
    rw [queue]
  · obtain ⟨e, found, inHead⟩ := (h.placed r).head.mp held
    exact (off r gone found).2.2 inHead

theorem State.closed_of_allTerminal {id : Nat} (board : s.board? id = some b) (all : b.allTerminal = true) (r : EntryRef) (e : Entry)
    (same : r.board = id) (found : s.entry? r = some e) : e.status.terminal = true := by
  obtain ⟨b', board', found⟩ := State.entry?_eq_some found
  rw [same, board] at board'
  cases board'
  exact List.all_eq_true.mp all e (List.mem_of_getElem? found)

/-- The boards after the ACTIVE one has gone (R77). -/
def Boards.finished (b : Boards) : Boards := { b with active := b.next.map Board.promoted, next := none }

theorem Entries.finish (h : Entries noLoose 0 s) (hauled : Hauled stale s) (active : s.boards.active = some b)
    (all : b.allTerminal = true) : Entries noLoose 0 { s with boards := s.boards.finished } := by
  refine h.remove (id := b.id) (State.closed_of_allTerminal (State.board?_active active) all) rfl (fun r gone => ?_)
    (fun r other => ?_) fun a' e unloading => ?_
  · cases next : s.boards.next with
    | none => simp [State.entry?, State.board?, Boards.finished, next]
    | some n =>
      obtain ⟨-, -, a, active', differs⟩ := hauled.next n next
      cases active.symm.trans active'
      simp [State.entry?, State.board?, Boards.finished, next, Board.promoted, gone, differs.symm]
  · have away : b.id ≠ r.board := fun e => other e.symm
    cases next : s.boards.next with
    | none => simp [State.entry?, State.board?, Boards.finished, next, active, away]
    | some n =>
      by_cases e : n.id = r.board <;>
        simp [State.entry?, State.board?, Boards.finished, next, active, away, Board.promoted, Option.filter, e]
  · obtain ⟨n, -, rfl⟩ := Option.map_eq_some_iff.mp (e : s.boards.next.map Board.promoted = some a')
    cases unloading

/-- The ACTIVE board goes, and with it what the transport did for it. -/
theorem Placed.finish (h : Placed stale s) (active : s.boards.active = some b) (all : b.allTerminal = true)
    (e : t.core = ({ s with boards := s.boards.finished, conveyor := c } : State).core) (serves : c.state.serves .waiting = true)
    (empty : c.state = .empty → c.board = none) (request : c.unloadRequest = false)
    (fresh : stale' = true ∨ c.state = .empty) : Placed stale' t := by
  refine Placed.ofCore (s := { s with boards := s.boards.finished, conveyor := c }) ⟨h.mech.congr rfl, ?_,
    (h.entries.finish h.hauled active all).congr rfl⟩ e
  refine ⟨nofun, fun req => ?_, empty, fun busy quiet => ?_, fun a' e => ?_⟩
  · rw [show c.unloadRequest = true from req] at request
    cases request
  · rcases fresh with rfl | e
    · have waits := quiet rfl
      revert serves busy waits
      dsimp only
      cases c.state <;> simp [TransportState.serves]
    · exact absurd e busy
  · obtain ⟨n, -, rfl⟩ := Option.map_eq_some_iff.mp (e : s.boards.next.map Board.promoted = some a')
    exact serves

theorem State.finishActive_core {u : State} (active : s.boards.active = some b) (next : s.boards.next = u.boards.next)
    (queue : s.boards.queue = u.boards.queue) (e : ∀ bs, ({ s with boards := bs } : State).core = ({ u with boards := bs } : State).core) :
    s.finishActive.core = ({ u with boards := u.boards.finished } : State).core := by
  unfold State.finishActive
  rw [active]
  dsimp only
  have sent : (s.emit 0x46#8 b.report).boards = s.boards := State.emit_boards _ _ _
  rw [sent, next, queue]
  have moved (bs : Boards) : ({ s.emit 0x46#8 b.report with boards := bs } : State).core = ({ s with boards := bs } : State).core :=
    congrArg (fun v : State => ({ v with boards := bs } : State)) (s.emit_core 0x46#8 b.report)
  exact (moved _).trans (e _)

/-! ## The completion test (R76, R77) -/

theorem Placed.weaken (h : Placed stale s) : Placed true s :=
  ⟨h.mech, ⟨h.hauled.next, h.hauled.unload, h.hauled.empty, fun busy fresh => h.hauled.board busy fun _ => fresh rfl,
    h.hauled.phase⟩, h.entries⟩

/-- The ACTIVE board is seen to be complete, and in CLAMPED is to be unloaded (R76). -/
theorem Placed.complete (h : Placed stale s) (active : s.boards.active = some b) (all : b.allTerminal = true) :
    Placed stale ({ s with boards := { s.boards with active := some { b with completing := true } } } : State) where
  mech := h.mech.congr rfl
  hauled := h.hauled.congr (by simp only [State.hauling, active, Option.map_some]; rfl)
  entries := h.entries.retag (by rw [active]; rfl) rfl rfl fun a' e _ => by cases Option.some.inj e; exact all

theorem Placed.requestUnload (h : Placed stale s) (active : s.boards.active = some b) (all : b.allTerminal = true)
    (clamped : b.phase = .clamped) : Placed stale ({ s with
      boards := { s.boards with active := some { b with completing := true, phase := .unloading } }
      conveyor := { s.conveyor with unloadRequest := true } } : State) := by
  have st : s.conveyor.state = .clamped := by
    have serves := h.hauled.phase b active
    rw [clamped] at serves
    revert serves
    cases s.conveyor.state <;> simp [TransportState.serves]
  have entries : Entries noLoose 0 ({ s with
      boards := { s.boards with active := some { b with completing := true, phase := .unloading } } } : State) :=
    h.entries.retag (by rw [active]; rfl) rfl rfl fun a' e _ => by cases Option.some.inj e; exact all
  refine ⟨h.mech.congr rfl, ⟨fun n e => ?_, fun _ => ⟨st, _, rfl, rfl⟩, fun e => ?_, fun _ _ => ⟨_, rfl, ?_⟩, fun a e => ?_⟩,
    entries.congr rfl⟩
  · obtain ⟨phase, fenced, a, active', differs⟩ := h.hauled.next n e
    cases active.symm.trans active'
    exact ⟨phase, fenced, _, rfl, differs⟩
  · rw [show s.conveyor.state = .empty from e] at st
    cases st
  · obtain ⟨a, active', board⟩ := h.hauled.board (by rw [st]; nofun) fun _ => by rw [st]; nofun
    cases active.symm.trans active'
    exact board
  · cases Option.some.inj e
    show s.conveyor.state.serves .unloading = true
    rw [st]
    rfl

theorem Placed.completeActive (n : Nat) (h : Placed stale s) : Placed true (completeActive n s) := by
  induction n generalizing stale s with
  | zero => exact h.weaken
  | succ n ih =>
    unfold Machine.completeActive
    split
    · exact h.weaken
    · next b active =>
      split
      · next all =>
        split
        · next waiting =>
          refine ih (stale := true) (h.finish (c := s.conveyor) active all (State.finishActive_core
            (s := { s with boards := { s.boards with active := some { b with completing := true } } }) (u := s)
            (b := { b with completing := true }) rfl rfl rfl fun _ => rfl) ?_ h.hauled.empty ?_ (.inl rfl))
          · rw [← waiting]
            exact h.hauled.phase b active
          · refine h.hauled.no_request fun clamped => ?_
            have serves := h.hauled.phase b active
            rw [waiting, clamped] at serves
            cases serves
        · next clamped => exact (h.requestUnload active all clamped).weaken
        · exact (h.complete active all).weaken
      · exact h.weaken

/-! ## The entry wait (R158, R159) -/

theorem Placed.judgeEntryWait (h : Placed true s) : Placed false s.judgeEntryWait := by
  unfold State.judgeEntryWait
  split
  · next waiting =>
    have quiet := h.hauled.no_request (by rw [waiting]; nofun)
    split
    · next none_ =>
      refine h.withConveyor (c := { s.conveyor with state := .empty, board := none })
        ((State.endTransportWait_core _).trans rfl) ⟨h.hauled.next, fun req => ?_, fun _ => rfl, fun busy => absurd rfl busy,
          fun a e => ?_⟩
      · rw [show s.conveyor.unloadRequest = true from req] at quiet; cases quiet
      · rw [none_] at e; cases e
    · next b active =>
      have phase : TransportState.entryWait.serves b.phase = true := waiting ▸ h.hauled.phase b active
      have carried (c : Conveyor) (board : c.board = some b.id) (st : c.state = .entryWait) (req : c.unloadRequest = false) :
          Carried false s.boards c := by
        refine ⟨h.hauled.next, fun r => ?_, fun e => ?_, fun _ _ => ⟨b, active, board⟩, fun a e => ?_⟩
        · rw [r] at req; cases req
        · rw [st] at e; cases e
        · cases active.symm.trans e
          rw [st]
          exact phase
      split
      · next same => exact ⟨h.mech, carried _ same waiting quiet, h.entries⟩
      · exact h.withConveyor (c := { s.conveyor with board := some b.id })
          ((State.beginTransportWait_core _ _).trans ((State.endTransportWait_core _).trans rfl)) (carried _ rfl waiting quiet)
  · next other =>
    exact ⟨h.mech, ⟨h.hauled.next, h.hauled.unload, h.hauled.empty, fun busy _ => h.hauled.board busy fun _ => other,
      h.hauled.phase⟩, h.entries⟩

theorem State.judgeLoadRequest_core (s : State) : s.judgeLoadRequest.core = s.core := by
  unfold State.judgeLoadRequest
  split <;> rfl

theorem Placed.judgeBoards (h : Placed false s) : Placed false s.judgeBoards :=
  Placed.ofCore (((Placed.completeActive 2 h).judgeEntryWait).judgeEntryRun) (State.judgeLoadRequest_core _)

/-! ## The end of an unload (R163, R164) -/

theorem Placed.endExitRun (h : Placed false s) {x y : Bool} (run : s.conveyor.state = .unloading x y) : Placed false s.endExitRun := by
  obtain ⟨a, active, -⟩ := h.active (by rw [run]; nofun)
  have unloading : a.phase = .unloading := by
    have serves := h.hauled.phase a active
    rw [run] at serves
    revert serves
    cases a.phase <;> simp [TransportState.serves]
  have quiet := h.hauled.no_request (by rw [run]; nofun)
  unfold State.endExitRun
  dsimp only
  generalize eu : State.stopWatch _ WatchId.conveyor = u
  have core (bs : Boards) : ({ u with boards := bs } : State).core
      = ({ s with boards := bs, conveyor := { s.conveyor with state := .empty, board := none } } : State).core := by
    rw [← eu]
    exact (congrArg (fun v : State => ({ v with boards := bs } : State)) (State.stopWatch_core _ .conveyor)).trans rfl
  have boards : u.boards = s.boards := by rw [← eu]; exact State.stopWatch_boards _ _
  have all := h.entries.done a active unloading
  refine h.finish (c := { s.conveyor with state := .empty, board := none }) active all
    (State.finishActive_core (u := { s with conveyor := { s.conveyor with state := .empty, board := none } }) (b := a) ?_ ?_ ?_ core) rfl (fun _ => rfl) quiet (.inr rfl)
  all_goals rw [boards]
  exact active

theorem Placed.exitSensorArrival (h : Placed false s) (made : Bool) : Placed false (s.exitSensorArrival made) := by
  have seen : Placed false ({ s with pins := { s.pins with exitSensor := made } } : State) := h.ofCore rfl
  unfold State.exitSensorArrival
  dsimp only
  split
  · next run =>
    refine h.move rfl rfl rfl (by rw [run]; nofun) (by rw [run]; nofun) (by nofun) (fun p => ?_) (by rw [run]; nofun)
    rw [run]
    cases p <;> simp [TransportState.serves]
  · next run => exact seen.endExitRun run
  · exact seen

theorem Placed.restartConveyor (h : Placed false s) : Placed false s.restartConveyor := by
  unfold State.restartConveyor
  split
  · next run => exact h.endEntryRun run
  · next run =>
    refine h.move (State.startWatch_core _ _ _) rfl rfl (by rw [run]; nofun) (by rw [run]; nofun) (by nofun) (fun p => ?_)
      (by rw [run]; nofun)
    rw [run]
    cases p <;> simp [TransportState.serves]
  · next run =>
    split
    · exact h.endExitRun run
    · exact h.runExit _ (.inr ⟨_, _, run⟩)
  · exact h

end

end Sys2Proof.Machine

/-! PROOFS. Boards announced and abandoned, and the head's strokes, with the entries and the transport (R64, R73 to R75, R142 to R154). -/

namespace Sys2Proof.Machine

section
variable {s t u : State} {stale : Bool} {b : Board} {ref : EntryRef} {e : Entry}

/-! ## ANNOUNCE_BOARD (R64 to R66) -/

theorem buildList_fresh {h : Header} {l : List Resolved} {mask : Nat} (mem : e ∈ buildList s h l mask) :
    e.status = .pending ∧ e.pocket = none := by
  have built : ∃ i r, e = buildEntry s i r := by
    unfold buildList at mem
    dsimp only at mem
    split at mem
    · obtain ⟨i, -, mem⟩ := List.mem_flatMap.mp mem
      obtain ⟨r, -, e⟩ := List.mem_map.mp mem
      exact ⟨i, r, e.symm⟩
    · obtain ⟨r, -, mem⟩ := List.mem_flatMap.mp mem
      obtain ⟨i, -, e⟩ := List.mem_map.mp mem
      exact ⟨i, r, e.symm⟩
  obtain ⟨i, r, rfl⟩ := built
  exact ⟨rfl, rfl⟩

/-- A board comes with entries that hold no place. -/
theorem Entries.add (h : Entries noLoose 0 s) {id : Nat} (absent : ∀ r, r.board = id → s.entry? r = none) {bs : Boards}
    (queue : bs.queue = s.boards.queue)
    (fresh : ∀ r e, r.board = id → ({ s with boards := bs } : State).entry? r = some e → e.status = .pending ∧ e.pocket = none)
    (kept : ∀ r, r.board ≠ id → ({ s with boards := bs } : State).entry? r = s.entry? r)
    (done : ({ s with boards := bs } : State).unloadsDone) : Entries noLoose 0 { s with boards := bs } := by
  refine h.giveUp (gone := fun r => r.board = id) ⟨fun r p new held => ?_, fun _ _ _ _ => rfl, fun _ _ held => held,
    fun r e new found => ?_, kept, fun r => ?_, ?_, fun r => ⟨fun held => ⟨held, fun new => ?_⟩, And.left⟩⟩ done
  · obtain ⟨-, e, found, -⟩ := (h.placed r).pocket p held
    rw [absent r new] at found
    cases found
  · obtain ⟨pending, pocket⟩ := fresh r e new found
    rw [pending]
    exact ⟨pocket, rfl, nofun, nofun⟩
  · show r ∈ bs.queue ↔ _
    rw [queue]
    refine ⟨fun mem => ⟨mem, fun new => ?_⟩, And.left⟩
    obtain ⟨e, found, -⟩ := (h.placed r).queue.mp mem
    rw [absent r new] at found
    cases found
  · show bs.queue.Sublist _
    rw [queue]
  · obtain ⟨e, found, -⟩ := (h.placed r).head.mp held
    rw [absent r new] at found
    cases found

theorem Placed.announceNext (h : Placed false s) {a : Board} (active : s.boards.active = some a) (next : s.boards.next = none)
    (other : a.id ≠ b.id) (waiting : b.phase = .waiting) (open_ : b.fenced = false)
    (fresh : ∀ e ∈ b.entries, e.status = .pending ∧ e.pocket = none) :
    Placed false ({ s with boards := { s.boards with next := some b } } : State) := by
  refine ⟨h.mech.congr rfl, ⟨fun n e => ?_, h.hauled.unload, h.hauled.empty, h.hauled.board, h.hauled.phase⟩,
    h.entries.add (id := b.id) (fun r new => ?_) rfl (fun r e new found => ?_) (fun r old => ?_) h.entries.done⟩
  · cases Option.some.inj e
    exact ⟨waiting, open_, a, active, other⟩
  · simp [State.entry?, State.board?, active, next, new, other]
  · refine fresh e (List.mem_of_getElem? (i := r.index) ?_)
    simpa [State.entry?, State.board?, active, new, other, Option.filter] using found
  · have away : b.id ≠ r.board := fun e => old e.symm
    simp [State.entry?, State.board?, active, next, away, Option.filter]

theorem Placed.announceActive (h : Placed false s) (active : s.boards.active = none) (waiting : b.phase = .waiting)
    (fresh : ∀ e ∈ b.entries, e.status = .pending ∧ e.pocket = none) :
    Placed false ({ s with boards := { s.boards with active := some b } } : State) := by
  have next : s.boards.next = none := by
    cases next : s.boards.next with
    | none => rfl
    | some n =>
      obtain ⟨-, -, a, active', -⟩ := h.hauled.next n next
      rw [active] at active'
      cases active'
  have empty : s.conveyor.state = .empty := by
    by_contra busy
    obtain ⟨a, active', -⟩ := h.active busy
    rw [active] at active'
    cases active'
  refine ⟨h.mech.congr rfl, ⟨fun n e => ?_, fun req => ?_, h.hauled.empty, fun busy => absurd empty busy, fun a e => ?_⟩,
    h.entries.add (id := b.id) (fun r new => ?_) rfl (fun r e new found => ?_) (fun r old => ?_) fun a e unloading => ?_⟩
  · rw [show s.boards.next = some n from e] at next
    cases next
  · obtain ⟨-, a, active', -⟩ := h.hauled.unload req
    rw [active] at active'
    cases active'
  · cases Option.some.inj e
    show s.conveyor.state.serves b.phase = true
    rw [empty, waiting]
    rfl
  · simp [State.entry?, State.board?, active, next]
  · refine fresh e (List.mem_of_getElem? (i := r.index) ?_)
    simpa [State.entry?, State.board?, new, Option.filter] using found
  · have away : b.id ≠ r.board := fun e => old e.symm
    simp [State.entry?, State.board?, active, next, away, Option.filter]
  · cases Option.some.inj e
    rw [waiting] at unloading
    cases unloading

/-! ## SKIP_STEP, DISPOSE_STEP and ABANDON_BOARD (R73 to R75) -/

theorem Placed.skipEntry (h : Placed stale s) (found : s.entry? ref = some e) (inHead : e.status ≠ .inHead)
    (open_ : e.status.terminal = false) : Placed stale (s.skipEntry ref e) :=
  ⟨(h.mech.releasePocket e (c := .skipped) nofun).congr rfl, h.hauled.congr (s.skipEntry_hauling ref e),
    h.entries.skipEntry found inHead open_⟩

theorem Placed.accept (h : Placed stale s) (found : s.entry? ref = some e) (failed : e.status = .failedOpen) :
    Placed stale (s.modifyEntry ref fun e => e.close .failed e.cause) :=
  ⟨h.mech.congr rfl, h.hauled.congr (s.modifyEntry_hauling _ _), h.entries.accept found failed rfl rfl⟩

theorem Placed.remakeEntry (h : Placed stale s) (found : s.entry? ref = some e) (failed : e.status = .failedOpen)
    (room : s.entriesInWork ≠ 128) : Placed stale (s.remakeEntry ref) :=
  ⟨h.mech.congr rfl, h.hauled.congr (s.remakeEntry_hauling _), h.entries.remakeEntry found failed room⟩

theorem State.releasePocket_head (s : State) (e : Entry) (c : PocketCause) : (s.releasePocket e c).head = s.head := by
  have withdraw (p : Fin 128) : (s.withdraw p).head = s.head := by
    unfold State.withdraw
    dsimp only
    split
    · split <;> rfl
    · rfl
  have orphan (p : Fin 128) : (s.orphan p c).head = s.head := by
    rcases s.orphan_cases p c with e | ⟨e, -⟩ <;> rw [e]
    rfl
  unfold State.releasePocket
  split
  · rfl
  · split
    · exact withdraw _
    · exact orphan _
    · exact orphan _
    · exact orphan _
    · rfl

theorem Placed.abandonEntries (h : Placed stale s) {id : Nat} (board : s.board? id = some b)
    (rest : s.head.state = .top ∨ s.head.state = .wait ∨ s.head.state.isHalted = true) : Placed stale (s.abandonEntries b) := by
  refine ⟨?_, h.hauled.congr (s.abandonEntries_hauling b), h.entries.abandonEntries board⟩
  have released : Mech 0 (b.entries.foldl (fun s e => s.releasePocket e .abandoned) s) ∧
      (b.entries.foldl (fun s e => s.releasePocket e .abandoned) s).head = s.head :=
    foldl_keeps (P := fun u => Mech 0 u ∧ u.head = s.head)
      (fun u e hu => ⟨hu.1.releasePocket e (c := .abandoned) nofun, (u.releasePocket_head e _).trans hu.2⟩) _ ⟨h.mech, rfl⟩
  unfold State.abandonEntries
  dsimp only
  generalize List.foldl _ s b.entries = u at released
  refine Mech.discardNotice ?_ ?_ _
  · exact released.1.congr rfl
  · rw [← released.2] at rest
    exact rest

theorem State.removeNext_core (s : State) : s.removeNext.core = ({ s with boards := { s.boards with next := none } } : State).core := by
  unfold State.removeNext
  split
  · next none_ =>
    rw [← none_]
  · next n _ =>
    dsimp only
    rw [State.emit_boards]
    exact congrArg (fun v : State => ({ v with boards := { s.boards with next := none } } : State)) (s.emit_core 0x46#8 n.report)

theorem Placed.removeNext (h : Placed stale s) (closed : ∀ n, s.boards.next = some n → n.allTerminal = true) :
    Placed stale s.removeNext := by
  refine Placed.ofCore (s := { s with boards := { s.boards with next := none } }) ⟨h.mech.congr rfl,
    ⟨nofun, h.hauled.unload, h.hauled.empty, h.hauled.board, h.hauled.phase⟩, ?_⟩ s.removeNext_core
  cases next : s.boards.next with
  | none => exact h.entries.retag rfl (by rw [next]) rfl h.entries.done
  | some n =>
    obtain ⟨-, -, a, active, other⟩ := h.hauled.next n next
    refine h.entries.remove (id := n.id) (State.closed_of_allTerminal (State.board?_next active next other) (closed n next)) rfl
      (fun r gone => ?_) (fun r kept => ?_) h.entries.done
    · simp [State.entry?, State.board?, active, gone, other]
    · have away : n.id ≠ r.board := fun e => kept e.symm
      simp [State.entry?, State.board?, active, next, away, Option.filter]

theorem State.releasePocket_boards (s : State) (e : Entry) (c : PocketCause) : (s.releasePocket e c).boards = s.boards := by
  have withdraw (p : Fin 128) : (s.withdraw p).boards = s.boards := by
    unfold State.withdraw
    dsimp only
    split
    · split <;> rfl
    · rfl
  have orphan (p : Fin 128) : (s.orphan p c).boards = s.boards := by
    rcases s.orphan_cases p c with e | ⟨e, -⟩ <;> rw [e]
    rfl
  unfold State.releasePocket
  split
  · rfl
  · split
    · exact withdraw _
    · exact orphan _
    · exact orphan _
    · exact orphan _
    · rfl

theorem State.abandonEntries_next (s : State) (b : Board) : (s.abandonEntries b).boards.next
    = s.boards.next.map fun n => if n.id = b.id then n.abandon else n := by
  have released : (b.entries.foldl (fun s e => s.releasePocket e .abandoned) s).boards = s.boards :=
    foldl_keeps (P := fun u => u.boards = s.boards) (fun u e hu => (u.releasePocket_boards e _).trans hu) _ rfl
  have notice (v : State) (id : Nat) : (v.discardNotice id).boards = v.boards := by
    unfold State.discardNotice
    split
    · split <;> rfl
    · rfl
  unfold State.abandonEntries
  dsimp only
  rw [notice]
  show Option.map _ (List.foldl _ s b.entries).boards.next = _
  rw [released]
  rfl

theorem Board.abandon_allTerminal (b : Board) : b.abandon.allTerminal = true :=
  List.all_eq_true.mpr fun e mem => by
    obtain ⟨e', -, rfl⟩ := List.mem_map.mp mem
    exact e'.abandon_terminal

/-- ABANDON_BOARD of either board; the NEXT one leaves at once (R75). -/
theorem Placed.abandonBoard (h : Placed stale s) {id : Nat} (board : s.board? id = some b)
    (rest : s.head.state = .top ∨ s.head.state = .wait ∨ s.head.state.isHalted = true) :
    Placed stale (if s.isActive id then s.abandonEntries b else (s.abandonEntries b).removeNext) := by
  have abandoned := h.abandonEntries board rest
  split
  · exact abandoned
  · next off =>
    obtain ⟨same, active | next⟩ := State.board?_eq_some board
    · exact absurd (by simp [State.isActive, active, same]) off
    · refine abandoned.removeNext fun n e => ?_
      rw [State.abandonEntries_next, next, Option.map_some, if_pos rfl] at e
      cases Option.some.inj e
      exact b.abandon_allTerminal

/-! ## The head (chapter 8) -/

/-- What lies outside the head's own stroke: the entries with their places, and the transport. -/
def State.beyond (s : State) := (s.books, s.hauling)

theorem State.beyond_of_core (e : t.core = s.core) : t.beyond = s.beyond := by
  simp only [State.beyond, State.books_of_core e, State.hauling_of_core e]

theorem Placed.stroke (h : Placed stale s) (mech : Mech 0 t) (e : t.beyond = s.beyond) : Placed stale t :=
  ⟨mech, h.hauled.congr (congrArg Prod.snd e), h.entries.congr (congrArg Prod.fst e)⟩

@[simp] theorem State.startWatch_beyond (s : State) (w : WatchId) (n : Nat) : (s.startWatch w n).beyond = s.beyond :=
  State.beyond_of_core (State.startWatch_core _ _ _)

@[simp] theorem State.stopWatch_beyond (s : State) (w : WatchId) : (s.stopWatch w).beyond = s.beyond :=
  State.beyond_of_core (State.stopWatch_core _ _)

theorem State.enterRise_beyond (s : State) : s.enterRise.beyond = s.beyond := State.startWatch_beyond _ _ _

theorem State.enterForm_beyond (s : State) : s.enterForm.beyond = s.beyond := State.startWatch_beyond _ _ _

theorem State.enterDiscard_beyond (s : State) : s.enterDiscard.beyond = s.beyond := State.startWatch_beyond _ _ _

theorem State.enterPick_beyond (s : State) : s.enterPick.beyond = s.beyond := State.startWatch_beyond _ _ _

theorem State.enterWait_beyond (s : State) : s.enterWait.beyond = s.beyond := State.stopWatch_beyond _ _

theorem State.enterTop_beyond (s : State) : s.enterTop.beyond = s.beyond := State.stopWatch_beyond _ _

theorem State.takeUnowned_beyond (s : State) : s.takeUnowned.beyond = s.beyond := by
  unfold State.takeUnowned
  dsimp only
  split
  · exact State.enterDiscard_beyond _
  · exact State.enterWait_beyond _

theorem State.judgeForm_beyond (s : State) : s.judgeForm.beyond = s.beyond := by
  unfold State.judgeForm
  split <;> split
  · exact s.enterForm_beyond
  · rfl
  · exact s.enterDiscard_beyond
  · rfl

theorem State.judgeRise_beyond (s : State) : s.judgeRise.beyond = s.beyond := by
  unfold State.judgeRise
  split
  · exact s.enterTop_beyond
  · rfl

theorem State.judgeDiscard_beyond (s : State) : s.judgeDiscard.beyond = s.beyond := by
  unfold State.judgeDiscard
  split
  · exact State.enterTop_beyond _
  · rfl

theorem Placed.judgeHead (h : Placed stale s) : Placed stale s.judgeHead := by
  refine h.stroke h.mech.judgeHead ?_
  exact (State.judgeDiscard_beyond _).trans ((State.judgeRise_beyond _).trans ((State.judgeForm_beyond _).trans
    (State.beyond_of_core s.judgeSpanMove_core)))

theorem Placed.startDiscard (h : Placed stale s) : Placed stale s.startDiscard := by
  refine h.stroke h.mech.startDiscard ?_
  unfold State.startDiscard
  split
  · exact s.enterDiscard_beyond
  · rfl

theorem Placed.startPick (h : Placed stale s) : Placed stale s.startPick := by
  refine h.stroke h.mech.startPick ?_
  unfold State.startPick
  split
  · exact s.enterPick_beyond
  · rfl

theorem Placed.startDrive (h : Placed stale s) : Placed stale s.startDrive := by
  refine h.stroke h.mech.startDrive ?_
  unfold State.startDrive
  split
  · exact State.startWatch_beyond _ _ _
  · rfl

theorem State.takeEntry_hauling (s : State) (ref : EntryRef) : (s.takeEntry ref).hauling = s.hauling := by
  unfold State.takeEntry
  split
  · exact congrArg Prod.snd s.takeUnowned_beyond
  · exact s.modifyEntry_hauling ref Entry.toHead

theorem State.completePick_hauling (s : State) : s.completePick.hauling = s.hauling := by
  have taken : (State.stopWatch { s.setPocket (s.pocketAt 96) Pocket.emptied with
      head := { s.head with outputs := { s.head.outputs with pick := false } } } .head).hauling = s.hauling :=
    State.stopWatch_hauling _ _
  unfold State.completePick
  dsimp only
  split
  · split
    · exact (State.takeEntry_hauling _ _).trans taken
    · exact (congrArg Prod.snd (State.takeUnowned_beyond _) :).trans taken
  · rfl

theorem Placed.completePick (h : Placed stale s) : Placed stale s.completePick :=
  ⟨h.mech.completePick, h.hauled.congr s.completePick_hauling, h.entries.completePick h.mech⟩

theorem Placed.completeForm (h : Placed stale s) : Placed stale s.completeForm := by
  refine h.stroke h.mech.completeForm ?_
  unfold State.completeForm
  split
  · exact State.enterWait_beyond _
  · rfl

theorem Placed.seeLead (h : Placed stale s) (side : Side) :
    Placed stale ({ s with head := { s.head with state := s.head.state.see side } } : State) :=
  h.stroke (h.mech.seeLead side) rfl

theorem State.enterClinch_beyond (s : State) (d : ClinchDir) : (s.enterClinch d).beyond = s.beyond := State.startWatch_beyond _ _ _

theorem Placed.completeDrive (h : Placed stale s) : Placed stale s.completeDrive := by
  have risen {v : State} (hauled : Hauled stale v) (entries : Entries noLoose 0 v) :
      Hauled stale v.enterRise ∧ Entries noLoose 0 v.enterRise :=
    ⟨hauled.congr (congrArg Prod.snd v.enterRise_beyond), entries.congr (congrArg Prod.fst v.enterRise_beyond)⟩
  suffices both : Hauled stale s.completeDrive ∧ Entries noLoose 0 s.completeDrive from ⟨h.mech.completeDrive, both.1, both.2⟩
  unfold State.completeDrive
  split
  · split
    · split
      · exact ⟨h.hauled.congr (congrArg Prod.snd (s.enterClinch_beyond _)), h.entries.congr (congrArg Prod.fst (s.enterClinch_beyond _))⟩
      · exact risen (h.hauled.congr s.insertHeld_hauling) h.entries.insertHeld
    · unfold State.missLead
      obtain ⟨hauled, entries⟩ := risen (h.hauled.congr (s.failHeld_hauling .leadMiss false)) (h.entries.failHeld .leadMiss false)
      exact ⟨hauled.raise _ _ _, entries.raise _ _ _⟩
  · exact ⟨h.hauled, h.entries⟩

theorem Placed.completeClinch (h : Placed stale s) (left right : Bool) : Placed stale (s.completeClinch left right) := by
  have risen {v : State} (hauled : Hauled stale v) (entries : Entries noLoose 0 v) :
      Hauled stale v.enterRise ∧ Entries noLoose 0 v.enterRise :=
    ⟨hauled.congr (congrArg Prod.snd v.enterRise_beyond), entries.congr (congrArg Prod.fst v.enterRise_beyond)⟩
  suffices both : Hauled stale (s.completeClinch left right) ∧ Entries noLoose 0 (s.completeClinch left right) from
    ⟨h.mech.completeClinch left right, both.1, both.2⟩
  unfold State.completeClinch
  dsimp only
  have read : Placed stale ({ s with pins := { s.pins with cutLeft := left, cutRight := right } } : State) := h.ofCore rfl
  split
  · split
    · exact risen (read.hauled.congr (State.insertHeld_hauling _)) read.entries.insertHeld
    · obtain ⟨hauled, entries⟩ := risen (read.hauled.congr (State.unclinchHeld_hauling _)) read.entries.unclinchHeld
      exact ⟨Hauled.raise hauled _ _ _, Entries.raise entries _ _ _⟩
  · exact ⟨h.hauled, h.entries⟩

theorem Placed.clinchHomeArrival (h : Placed stale s) (made : Bool) : Placed stale (s.clinchHomeArrival made) := by
  refine h.stroke (h.mech.clinchHomeArrival made) ?_
  unfold State.clinchHomeArrival
  dsimp only
  split <;> rfl

theorem Placed.headTopArrival (h : Placed stale s) (made : Bool) : Placed stale (s.headTopArrival made) := by
  refine h.stroke (h.mech.headTopArrival made) ?_
  unfold State.headTopArrival
  dsimp only
  split
  · exact (State.beyond_of_core (State.noticeHalted_core _ _)).trans (State.enterTop_beyond _)
  · rfl

end

end Sys2Proof.Machine

/-! PROOFS. The emergency stop, recovery, the line and the judgement at the end of an event, with the entries, the head and the
transport (R153, R154, R170, R188 to R192). -/

namespace Sys2Proof.Machine

section
variable {s t u : State} {stale : Bool} {land : Nat}

/-! ## The chain's operations -/

theorem Placed.completeIndex (h : Placed stale s) (seen : Bool) : Placed stale (s.completeIndex seen) :=
  ⟨h.mech.completeIndex seen, h.hauled.completeIndex seen, h.entries.completeIndex seen⟩

theorem Placed.requestIndex (h : Placed stale s) (g : Governed [] false s) : Placed stale s.requestIndex :=
  ⟨h.mech.requestIndex g, h.hauled.congr s.requestIndex_hauling, h.entries.requestIndex⟩

theorem Placed.recoverIndex (h : Placed stale s) : Placed stale s.recoverIndex :=
  ⟨h.mech.recoverIndex, h.hauled.congr s.recoverIndex_hauling, h.entries.recoverIndex⟩

theorem Placed.interruptIndex (h : Placed stale s) : Placed stale s.interruptIndex :=
  ⟨h.mech.interruptIndex, h.hauled.congr s.interruptIndex_hauling, h.entries.interruptIndex⟩

theorem Placed.startStroke (h : Placed stale s) : Placed stale s.startStroke :=
  ⟨h.mech.congr s.startStroke_mech, h.hauled.congr s.startStroke_hauling, h.entries.startStroke⟩

theorem Placed.completeStroke (h : Placed stale s) (place : PlaceLaw s) : Placed stale s.completeStroke :=
  ⟨h.mech.completeStroke place, h.hauled.congr s.completeStroke_hauling, h.entries.completeStroke place⟩

theorem Placed.requestAssignment (h : Placed false s) (place : PlaceLaw s) (p : Fin 128) : Placed false (s.requestAssignment p) :=
  ⟨h.mech.requestAssignment p, h.hauled.congr (s.requestAssignment_hauling p),
    h.entries.requestAssignment h.mech place h.hauled p⟩

theorem Placed.fire (h : Placed stale s) (k : Fin 80) : Placed stale (s.fire k) :=
  ⟨h.mech.fire k, h.hauled.congr (s.fire_hauling k), h.entries.fire k⟩

theorem Placed.fireAll (h : Placed stale s) : Placed stale s.fireAll :=
  ⟨h.mech.fireAll, h.hauled.congr s.fireAll_hauling, h.entries.fireAll⟩

theorem Placed.startMeasurement (h : Placed stale s) : Placed stale s.startMeasurement :=
  ⟨h.mech.startMeasurement, h.hauled.congr s.startMeasurement_hauling, h.entries.startMeasurement⟩

theorem Placed.completeMeasurement (h : Placed stale s) (forward reverse : Nat) :
    Placed stale (s.completeMeasurement forward reverse) :=
  ⟨h.mech.completeMeasurement forward reverse, h.hauled.completeMeasurement forward reverse,
    h.entries.completeMeasurement h.mech forward reverse⟩

/-! ## The emergency stop (R153, R170) -/

theorem State.estopTable_core (s : State) : s.estopTable.core = s.core := by
  unfold State.estopTable
  rw [State.noticeHomed_core, State.noticeHomed_core, State.noticeHomed_core, State.haltWatch_core]
  rfl

theorem State.estopSpan_core (s : State) : s.estopSpan.core = s.core := by
  unfold State.estopSpan
  rw [State.noticeHomed_core, State.haltWatch_core]
  rfl

theorem ClinchState.estop_not_stroking (c : ClinchState) (d : ClinchDir) : c.estop ≠ .stroking d := by cases c <;> nofun

/-- The head after an emergency stop: HALTED without air, empty, its clinch unit at rest. -/
theorem Head.estop_fits {hd : Head} {st : HeadState} (state : hd.state = st.estop) (held : hd.held = none) (unowned : hd.unowned = false)
    {c : ClinchState} (clinch : hd.clinch = c.estop) : hd.fits := by
  unfold Head.fits
  rw [held, unowned, state, clinch]
  exact ⟨nofun, nofun, iff_of_false nofun fun ⟨d, e⟩ => c.estop_not_stroking d e⟩

theorem State.failHeld_held (s : State) (c : EntryCause) (m : Bool) : (s.failHeld c m).head.held = none :=
  (congrArg (fun v : State => v.head.held) (s.failHeld_mech c m) :)

theorem Placed.estopHead (h : Placed stale s) : Placed stale s.estopHead := by
  have halted : Mech 0 s.haltHead := h.mech.haltHead
  have lost := s.haltHead.failHeld_mech .lost false
  have held := s.haltHead.failHeld_held .lost false
  have hauled : Hauled stale (s.haltHead.failHeld .lost false) :=
    (h.hauled.congr s.haltHead_hauling).congr (State.failHeld_hauling _ _ _)
  have entries : Entries noLoose 0 (s.haltHead.failHeld .lost false) := h.entries.haltHead.failHeld _ _
  unfold State.estopHead
  dsimp only
  generalize s.haltHead.failHeld .lost false = u at lost held hauled entries
  generalize eh : ({ u.head with
    state := u.head.state.estop, unowned := false, clinch := u.head.clinch.estop, outputs := {} } : Head) = hd
  have head : hd.held = none := by rw [← eh]; exact held
  have core : (State.estopSpan (State.noticeHalted (State.haltWatch ({ u with head := hd } : State) .head) true)).core
      = ({ u with head := hd } : State).core :=
    (State.estopSpan_core _).trans ((State.noticeHalted_core _ _).trans (State.haltWatch_core _ _))
  refine Placed.ofCore (s := { u with head := hd }) ⟨?_, ?_, ?_⟩ core
  · refine halted.passHead (hd := hd) ?_ (Head.estop_fits (st := u.head.state) (c := u.head.clinch) ?_ head ?_ ?_) ?_
    · exact (State.mech_withHead lost rfl rfl rfl rfl).trans rfl
    all_goals
      rw [← eh]
      try rfl
    show (HeadState.halted _ true).picking = false
    cases u.head.state.haltSource <;> rfl
  · exact hauled.congr rfl
  · exact entries.congr (by simp only [State.books, head, held])

theorem Placed.estopArrive (h : Placed stale s) : Placed stale s.estopArrive := by
  have seen : Placed stale (State.setCondition { s with inputs := { s.inputs with estop := true } } .estop true) :=
    h.ofCore (State.setCondition_unread _ _ _).core
  have stopped := (seen.raise .estop .stop {}).interruptIndex
  exact ((stopped.ofCore (State.releaseFires_unread _).core).ofCore (State.estopTable_core _)).estopHead

/-! ## Recovery (R154, R192) -/

theorem State.leaveHalted_core (s : State) (airLost : Bool) : (s.leaveHalted airLost).core = s.core := by
  unfold State.leaveHalted
  rw [State.noticeHalted_core]
  split <;> rfl

/-- A HALTED head takes up a state outside CLINCH that may hold what it holds. -/
theorem Mech.leaveHalted (h : Mech land s) {src : HaltedFrom} {air : Bool} (halted : s.head.state = .halted src air) {hd : Head}
    (e : t.mech = ({ s with head := hd } : State).mech) (held : hd.held = s.head.held) (unowned : hd.unowned = s.head.unowned)
    (clinch : ∀ d, hd.clinch = .stroking d → s.head.clinch = .stroking d) (live : hd.state ≠ .clinch)
    (hold : s.head.held.isSome = true → hd.state.mayHold = true) (keep : s.head.unowned = true → hd.state.mayHoldUnowned = true)
    (picking : hd.state.picking = true → (HeadState.halted src air).picking = true) : Mech land t := by
  refine h.setHead e (h.fits.move (by rw [halted]; nofun) live clinch (fun some_ => ?_) fun un => ?_) fun on => .inl ?_
  · rw [held] at some_
    rw [unowned]
    exact ⟨(h.fits.1 some_).1, hold some_⟩
  · rw [unowned] at un
    exact keep un
  · rw [halted]
    exact picking on

theorem Mech.resumeFrom (h : Mech land s) {src : HaltedFrom} (halted : s.head.state = .halted src false) (src' : HaltedFrom)
    (same : src' = src) : Mech land (s.resumeFrom src') := by
  subst same
  have fits := h.fits
  have enter {st : HeadState} {v : State} (e : v.mech = ({ s with head := { s.head with state := st } } : State).mech)
      (live : st ≠ .clinch) (hold : s.head.held.isSome = true → st.mayHold = true)
      (keep : s.head.unowned = true → st.mayHoldUnowned = true)
      (picking : st.picking = true → (HeadState.halted src' false).picking = true) : Mech land v :=
    h.leaveHalted halted e rfl rfl (fun _ e => e) live hold keep picking
  have rise (empty : (HeadState.halted src' false).mayHold = false) (owned : (HeadState.halted src' false).mayHoldUnowned = false) :
      Mech land s.enterRise := by
    obtain ⟨held, unowned⟩ := fits.empty (by rw [halted]; exact empty) (by rw [halted]; exact owned)
    exact h.enterRise unowned (State.withEmptied_of_none held).symm
  have owned (un : ¬ s.head.unowned = true) {P : Prop} (yes : s.head.unowned = true) : P := absurd yes un
  have discard (none_ : s.head.held.isSome = true → False) : Mech land s.enterDiscard :=
    enter (v := s.enterDiscard) (st := .discard) (State.startWatch_mech _ _ _) nofun (fun some_ => (none_ some_).elim) (fun _ => rfl) nofun
  have un_held (un : s.head.unowned = true) (some_ : s.head.held.isSome = true) : False := by
    rw [(fits.1 some_).1] at un
    cases un
  unfold State.resumeFrom
  split
  case h_6 =>
    exact enter (v := s.enterPick) (st := .pickStroke) (State.startWatch_mech _ _ _) nofun
      (fun some_ => by have := (fits.1 some_).2; rw [halted] at this; cases this)
      (fun un => by have := fits.2.1 un; rw [halted] at this; cases this) fun _ => rfl
  case h_7 =>
    have entered : Mech land ({ s with head := { s.head with state := .pickSpanWait } } : State) :=
      enter rfl nofun (fun _ => rfl) (fun _ => rfl) nofun
    unfold State.resumeSpanWait
    dsimp only
    split
    · split
      · exact entered.ofCore (State.startSpan_core _ _)
      · exact entered
    · exact entered
  case h_8 =>
    split
    · next un => exact discard (un_held un)
    · next un => exact enter (v := s.enterForm) (st := .form) (State.startWatch_mech _ _ _) nofun (fun _ => rfl) (owned un) nofun
  case h_9 =>
    split
    · next un => exact discard (un_held un)
    · next un => exact enter (v := s.enterWait) (st := .wait) (State.stopWatch_mech _ _) nofun (fun _ => rfl) (owned un) nofun
  case h_10 => exact discard fun some_ => by have := (fits.1 some_).2; rw [halted] at this; cases this
  all_goals exact rise rfl rfl

theorem Mech.recoverHead (h : Mech land s) : Mech land s.recoverHead := by
  unfold State.recoverHead
  split
  · next src airLost halted =>
    have core := s.leaveHalted_core airLost
    have left : Mech land (s.leaveHalted airLost) := h.ofCore core
    have halted' : (s.leaveHalted airLost).head.state = .halted src airLost :=
      (congrArg (fun v : State => v.head.state) core :).trans halted
    dsimp only
    split
    · next lost =>
      rw [lost] at halted' left ⊢
      obtain ⟨held, unowned⟩ := left.fits.empty (by rw [halted']; cases src <;> rfl) (by rw [halted']; cases src <;> rfl)
      exact left.enterRise unowned (State.withEmptied_of_none held).symm
    · next air =>
      rw [Bool.not_eq_true] at air
      rw [air] at halted' left ⊢
      exact left.resumeFrom halted' src rfl
  · exact h.congr rfl

theorem State.resumeFrom_beyond (s : State) (src : HaltedFrom) : (s.resumeFrom src).beyond = s.beyond := by
  unfold State.resumeFrom
  split
  case h_6 => exact s.enterPick_beyond
  case h_7 =>
    unfold State.resumeSpanWait
    dsimp only
    split
    · split
      · exact (State.beyond_of_core (State.startSpan_core _ _)).trans rfl
      · rfl
    · rfl
  case h_8 =>
    split
    · exact s.enterDiscard_beyond
    · exact s.enterForm_beyond
  case h_9 =>
    split
    · exact s.enterDiscard_beyond
    · exact s.enterWait_beyond
  case h_10 => exact s.enterDiscard_beyond
  all_goals exact s.enterRise_beyond

theorem State.recoverHead_beyond (s : State) : s.recoverHead.beyond = s.beyond := by
  unfold State.recoverHead
  split
  · dsimp only
    split
    · exact (State.enterRise_beyond _).trans (State.beyond_of_core (s.leaveHalted_core _))
    · exact (State.resumeFrom_beyond _ _).trans (State.beyond_of_core (s.leaveHalted_core _))
  · rfl

theorem Placed.enterRecovering (h : Placed stale s) : Placed stale s.enterRecovering := by
  have lined : Placed stale (s.setLine .recovering (.command .recover)) := h.ofCore (s.setLine_core _ _)
  unfold State.enterRecovering
  dsimp only
  generalize s.setLine .recovering (.command .recover) = u at lined
  have begun : Placed stale ({ u with alarms := { u.alarms with line := { u.alarms.line with
      recovery := some { chain := false, head := false } } } } : State) := lined.ofCore rfl
  exact begun.recoverIndex.stroke begun.recoverIndex.mech.recoverHead (State.recoverHead_beyond _)

/-! ## RUN, HOLD and STOP (R188 to R190) -/

theorem Placed.startMove (h : Placed stale s) (p : Purpose) : Placed stale (s.startMove p) := by
  unfold State.startMove
  split
  · exact h
  · exact h.ofCore (State.startWatch_core _ _ _)

theorem Placed.restartKept (h : Placed stale s) : Placed stale s.restartKept := by
  unfold State.restartKept
  split
  · exact h
  · split
    · exact h.startMove _
    · split
      · exact h.startMove _
      · exact h.ofCore rfl
    · exact h.ofCore rfl

theorem Placed.enterRunning (h : Placed false s) : Placed false s.enterRunning := by
  have lined : Placed false (s.setLine .running (.command .run)) := h.ofCore (s.setLine_core _ _)
  exact lined.restartKept.restartConveyor.startMeasurement.fireAll

theorem Placed.enterHolding (h : Placed stale s) : Placed stale s.enterHolding := by
  have lined : Placed stale (s.setLine .holding (.command .hold)) := h.ofCore (s.setLine_core _ _)
  exact lined.startMeasurement.fireAll

theorem Placed.enterStopped (h : Placed stale s) (c : LineCause) : Placed stale (s.enterStopped c) :=
  ⟨h.mech.enterStopped c, h.hauled.enterStopped c, h.entries.enterStopped c⟩

/-! ## The judgement at the end of an event -/

theorem Placed.judgeFollow (h : Placed stale s) (a : Axis) : Placed stale (s.judgeFollow a) := by
  unfold State.judgeFollow
  dsimp only
  split
  · refine Placed.raise ?_ _ _ _
    exact h.ofCore rfl
  · exact h

theorem State.positionTable_core (s : State) : s.positionTable.core = s.core := State.stopWatch_core _ _

theorem State.judgeTable_core (s : State) : s.judgeTable.core = s.core := by
  unfold State.judgeTable
  dsimp only
  split
  · exact State.positionTable_core _
  · rfl

theorem State.parkDone_core (s : State) (a : Axis) : (s.parkDone a).core = s.core := by
  have done : ((s.setAxis a { s.axis a with state := .inPosition, parked := none, slowing := false }).reportHomed a).core = s.core :=
    (State.emit_core _ _ _).trans (State.setAxis_core _ _ _)
  unfold State.parkDone
  dsimp only
  split
  · exact done
  · exact (State.stopWatch_core _ _).trans done

theorem State.judgePark_core (s : State) (a : Axis) : (s.judgePark a).core = s.core := by
  unfold State.judgePark
  dsimp only
  split
  · split
    · split
      · exact s.parkDone_core a
      · exact State.setAxis_core _ _ _
    · exact State.setAxis_core _ _ _
  · rfl

theorem Placed.judgeAxes (h : Placed stale s) : Placed stale s.judgeAxes := by
  have followed : Placed stale (((s.judgeDeparture.judgeFollow .x).judgeFollow .y).judgeFollow .r) :=
    (((h.ofCore (t := s.judgeDeparture) rfl).judgeFollow .x).judgeFollow .y).judgeFollow .r
  refine followed.ofCore ?_
  unfold State.judgeAxes
  dsimp only
  rw [State.judgeSpan_core, State.judgePark_core, State.judgePark_core, State.judgePark_core, State.judgeTable_core]

theorem Placed.startEntryMove (h : Placed stale s) : Placed stale s.startEntryMove := by
  unfold State.startEntryMove
  split
  · exact h.startMove _
  · exact h

theorem Placed.startLoadMove (h : Placed stale s) : Placed stale s.startLoadMove := by
  unfold State.startLoadMove
  split
  · exact h.startMove _
  · exact h

theorem Placed.judgeMoves (h : Placed stale s) : Placed stale s.judgeMoves := by
  unfold State.judgeMoves
  split
  · exact h.startEntryMove.startLoadMove.judgeAxes
  · exact h

theorem Placed.judgeDiscard (h : Placed stale s) : Placed stale s.judgeDiscard :=
  h.stroke h.mech.judgeDiscard s.judgeDiscard_beyond

theorem Placed.judgeStarts (h : Placed false s) : Placed false s.judgeStarts := by
  have strokes := h.startStroke.startDiscard.judgeDiscard.judgeMoves.startPick.startDrive
  exact strokes.startLoad.startUnload.startExitRun

theorem Placed.judgeStarved (h : Placed stale s) : Placed stale s.judgeStarved := by
  unfold State.judgeStarved
  split
  · exact h.ofCore rfl
  · split
    · exact h
    · split
      · refine Placed.raise ?_ _ _ _
        exact h.ofCore rfl
      · exact h.ofCore rfl

theorem State.judgeBoardWait_core (s : State) : s.judgeBoardWait.core = s.core := by
  unfold State.judgeBoardWait
  split
  · rfl
  · unfold State.endHeadWait
    dsimp only
    split
    · exact (State.reportCleared_core _ _ _).trans rfl
    · rfl
  · rfl

theorem State.judgeRecovery_core (s : State) : s.judgeRecovery.core = s.core := by
  unfold State.judgeRecovery
  split
  · dsimp only
    split
    · exact (State.setLine_core _ _ _).trans rfl
    · rfl
  · rfl

theorem State.judgeQuiescent_core (s : State) : s.judgeQuiescent.core = s.core := by
  unfold State.judgeQuiescent
  split
  · exact State.setLine_core _ _ _
  · rfl

theorem Placed.judgeLine (h : Placed stale s) : Placed stale s.judgeLine :=
  h.judgeStarved.ofCore ((State.judgeQuiescent_core _).trans ((State.judgeRecovery_core _).trans (State.judgeBoardWait_core _)))

/-- What an event judges at its end keeps the pockets, the head, the entries and the transport together. -/
theorem Placed.judge (h : Placed false s) : Placed false s.judge :=
  h.judgeAxes.judgeHead.judgeBoards.judgeStarts.judgeLine

end

end Sys2Proof.Machine

/-! PROOFS. Every event of the world keeps the pockets, the head, the entries, the transport and the line together. -/

namespace Sys2Proof.Machine

section
variable {s t : State} {stale : Bool}

/-! ## The axes and the inputs (R120, R122, R123, R166 to R174) -/

theorem State.switchEdge_core (s : State) (a : Axis) : (s.switchEdge a).core = s.core := by
  have edge (u : State) : (u.edgeWatch a).core = u.core := by
    unfold State.edgeWatch
    split
    · exact State.startWatch_core _ _ _
    · split
      · rfl
      · exact State.startWatch_core _ _ _
  unfold State.switchEdge
  rw [edge, State.noticeHomed_core, State.setAxis_core]

theorem State.homeSwitchArrival_core (s : State) (a : Axis) (made : Bool) : (s.homeSwitchArrival a made).core = s.core := by
  unfold State.homeSwitchArrival
  dsimp only
  split
  · exact (State.setAxis_core _ _ _).trans rfl
  · exact (State.switchEdge_core _ _).trans rfl
  · rfl

theorem Placed.tableTimeout (h : Placed stale s) : Placed stale s.tableTimeout := by
  have expired : Placed stale (s.expire .table) := h.ofCore (s.expire_core .table)
  unfold State.tableTimeout
  split
  · exact expired.raise _ _ _
  · exact (expired.raise _ _ _).ofCore (State.draw_core _)

theorem Placed.slowArrival (h : Placed stale s) (i : SlowInput) : Placed stale (s.slowArrival i) := by
  have level {v : State} (hv : Placed stale v) (src : Source) (present : Bool) : Placed stale (v.levelArrival src present) := by
    have noted := hv.ofCore (v.setCondition_unread src present).core
    unfold State.levelArrival
    dsimp only
    split
    · exact noted.raise _ _ _
    · exact noted
  have set := h.ofCore (s.setSlow_unread i { s.slow i with state := Debounced.ofRaw (s.slow i).raw }).core
  cases i with
  | tape k => exact set.ofCore (State.tapeArrival_unread _ k _).core
  | airOk => exact level set _ _
  | guardClosed => exact level set _ _

theorem Placed.rawChange (h : Placed stale s) (i : SlowInput) (made : Bool) : Placed stale (s.rawChange i made) := by
  have set := h.ofCore (s.setSlow_unread i { s.slow i with raw := made, since := 0 }).core
  unfold State.rawChange
  dsimp only
  split
  · exact h
  · split
    · exact set.slowArrival i
    · exact set

theorem Placed.expireWait (h : Placed stale s) (w : BoardWait) : Placed stale (s.expireWait w) := by
  unfold State.expireWait
  split
  · exact h
  · refine Placed.ofCore (Placed.raise (s := s.setBoardWait w _) ?_ _ _ _) (State.draw_core _)
    cases w <;> exact h.ofCore rfl

/-! ## The rows -/

/-- The laws of the line and those of the places, which the supply laws need not know of. -/
structure Ordered (s : State) : Prop where
  governed : Governed [] false s
  placed : Placed false s

theorem Ordered.congr (h : Ordered s) (same : Unread s t) : Ordered t :=
  ⟨h.governed.congr same.control, h.placed.ofCore same.core⟩

theorem Ordered.judge (h : Ordered s) : Ordered s.judge := ⟨h.governed.judge, h.placed.judge⟩

theorem Ordered.raise (h : Ordered s) (src : Source) (c : AlarmClass) (x : Context) : Ordered (s.raise src c x) :=
  ⟨h.governed.raise src c x, h.placed.raise src c x⟩

theorem State.expire_unread (s : State) (w : WatchId) : Unread s (s.expire w) := ⟨rfl, rfl⟩

/-- A watch that expires, and what it raises. -/
theorem Ordered.expire (h : Ordered s) (w : WatchId) (src : Source) (c : AlarmClass) (x : Context) :
    Ordered ((s.expire w).raise src c x) := (h.congr (s.expire_unread w)).raise src c x

/-- An axis record that the laws of the line read alike. -/
theorem Ordered.setAxis (h : Ordered s) {a : Axis} {v : AxisRec} (e : v.bare = (s.axis a).bare) : Ordered (s.setAxis a v) :=
  h.congr ⟨State.setAxis_core _ _ _, State.setAxis_control e⟩

theorem AxisRec.arrive_bare {a : AxisRec} (moving : a.state = .moving) : a.arrive.bare = a.bare :=
  AxisRec.of_moving_bare moving rfl rfl (.inl rfl)

theorem AxisRec.comeToRest_bare {a : AxisRec} (moving : a.state = .moving) (rest : Int) : (a.comeToRest rest).bare = a.bare :=
  AxisRec.of_moving_bare moving rfl rfl (.inr rfl)

/-- What an event changes before it is judged keeps the laws, and so does the row. -/
theorem Ordered.row (h : Ordered s) (place : PlaceLaw s) (i : Instr) {t : State} (m : mechanical i = true)
    (e : exec i s = .next t) : Ordered t := by
  obtain ⟨g, p⟩ := id h
  have next {u : State} (hu : Ordered u) (same : Host.Outcome.next u = (.next t : Host.Outcome State Fault Refusal)) :
      Ordered t := Host.Outcome.next.inj same ▸ hu
  have either {c : Prop} [Decidable c] {u : State} (hu : c → Ordered u) : Ordered (if c then u.judge else s) := by
    split
    · next yes => exact (hu yes).judge
    · exact h
  cases i
  case indexRequest => exact next (Ordered.judge ⟨g.congr s.requestIndex_control, p.requestIndex g⟩) e
  case indexCompletion seen => exact next (Ordered.judge ⟨g.completeIndex seen, p.completeIndex seen⟩) e
  case chainJam => exact next (either fun _ => h.expire _ _ _ _) e
  case assignment q => exact next (Ordered.judge ⟨g.congr (s.requestAssignment_control q), p.requestAssignment place q⟩) e
  case fire k => exact next (Ordered.judge ⟨g.congr (s.fire_control k), p.fire k⟩) e
  case fireDwellEnd k =>
    refine next (Ordered.judge ?_) e
    unfold State.endDwell
    split
    · exact h.congr ⟨State.setFireUnit_core _ _ _, State.setFireUnit_control _ _ _⟩
    · exact h
  case gateStrokeStart => exact next (Ordered.judge ⟨g.congr s.startStroke_control, p.startStroke⟩) e
  case gateStrokeCompletion => exact next (Ordered.judge ⟨g.congr s.completeStroke_control, p.completeStroke place⟩) e
  case gateJam =>
    exact next (either fun _ => (h.expire _ _ _ _).congr ⟨State.draw_core _, State.draw_control _⟩) e
  case measurementStart => exact next (Ordered.judge ⟨g.congr s.startMeasurement_control, p.startMeasurement⟩) e
  case measurementCompletion f r => exact next (Ordered.judge ⟨g.completeMeasurement f r, p.completeMeasurement f r⟩) e
  case homeSwitchArrival a made =>
    exact next (Ordered.judge ⟨g.homeSwitchArrival a made, p.ofCore (s.homeSwitchArrival_core a made)⟩) e
  case homingParkSettled a =>
    refine next (either fun due => ?_) e
    have parking := due.2
    simp only [State.parkDue, Bool.and_eq_true] at parking
    exact ⟨g.parkDone parking.1, p.ofCore (s.parkDone_core a)⟩
  case tableTimeout => exact next (either fun _ => ⟨g.tableTimeout, p.tableTimeout⟩) e
  case encoderCount a up steps => exact next (Ordered.judge (h.setAxis (AxisRec.count_bare _ _ _))) e
  case entryMoveStart => exact next (Ordered.judge ⟨g.startEntryMove, p.startEntryMove⟩) e
  case loadMoveStart => exact next (Ordered.judge ⟨g.startLoadMove, p.startLoadMove⟩) e
  case axisProfileComplete a =>
    exact next (either fun moving => h.setAxis (AxisRec.arrive_bare moving.1)) e
  case axisDecelerated a rest =>
    exact next (either fun moving => h.setAxis (AxisRec.comeToRest_bare moving.1 rest)) e
  case tablePositioned =>
    refine next (either fun due => ?_) e
    simp only [State.positionDue, Bool.and_eq_true] at due
    exact ⟨g.positionTable due.1, p.ofCore s.positionTable_core⟩
  case pickStart => exact next (Ordered.judge ⟨g.startPick, p.startPick⟩) e
  case pickCompletion => exact next (Ordered.judge ⟨g.completePick, p.completePick⟩) e
  case formCompletion => exact next (Ordered.judge ⟨g.completeForm, p.completeForm⟩) e
  case driveStart => exact next (Ordered.judge ⟨g.startDrive, p.startDrive⟩) e
  case leadSensorArrival side => exact next (Ordered.judge ⟨g.seeLead side, p.seeLead side⟩) e
  case driveCompletion => exact next (Ordered.judge ⟨g.completeDrive, p.completeDrive⟩) e
  case clinchCompletion l r => exact next (Ordered.judge ⟨g.completeClinch l r, p.completeClinch l r⟩) e
  case clinchHomeArrival made =>
    exact next (Ordered.judge ⟨g.congr (s.clinchHomeArrival_control made), p.clinchHomeArrival made⟩) e
  case headTopArrival made => exact next (Ordered.judge ⟨g.headTopArrival made, p.headTopArrival made⟩) e
  case discardStart => exact next (Ordered.judge ⟨g.startDiscard, p.startDiscard⟩) e
  case jawsOpenArrival made =>
    refine next (Ordered.judge ?_) e
    exact h.congr ⟨rfl, rfl⟩
  case headJam => exact next (either fun _ => h.expire _ _ _ _) e
  case spanTimeout => exact next (either fun _ => h.expire _ _ _ _) e
  case loadStart => exact next (Ordered.judge ⟨g.congr s.startLoad_control, p.startLoad⟩) e
  case entrySensorArrival made =>
    refine next (Ordered.judge ?_) e
    exact h.congr ⟨rfl, rfl⟩
  case stopSensorArrival made =>
    exact next (Ordered.judge ⟨g.congr (s.stopSensorArrival_control made), p.stopSensorArrival made⟩) e
  case clampClosedArrival made =>
    exact next (Ordered.judge ⟨g.congr (s.clampClosedArrival_control made), p.clampClosedArrival made⟩) e
  case unloadStart => exact next (Ordered.judge ⟨g.congr s.startUnload_control, p.startUnload⟩) e
  case clampOpenArrival made =>
    exact next (Ordered.judge ⟨g.congr (s.clampOpenArrival_control made), p.clampOpenArrival made⟩) e
  case exitRunStart => exact next (Ordered.judge ⟨g.congr s.startExitRun_control, p.startExitRun⟩) e
  case exitSensorArrival made =>
    exact next (Ordered.judge ⟨g.congr (s.exitSensorArrival_control made), p.exitSensorArrival made⟩) e
  case conveyorJam => exact next (either fun _ => h.expire _ _ _ _) e
  case boardLate w => exact next (either fun _ => ⟨g.expireWait w, p.expireWait w⟩) e
  case rawInputChange i made => exact next (Ordered.judge ⟨g.rawChange i made, p.rawChange i made⟩) e
  case debouncedArrival i => exact next (either fun _ => ⟨g.slowArrival i, p.slowArrival i⟩) e
  case estopArrival =>
    refine next ?_ e
    split
    · exact h
    · exact Ordered.judge ⟨g.estopArrive, p.estopArrive⟩
  case estopRelease =>
    refine next ?_ e
    exact h.congr ⟨rfl, rfl⟩
  all_goals cases m

end

end Sys2Proof.Machine

/-! PROOFS. Every command of the host keeps the pockets, the head, the entries, the transport and the line together. -/

namespace Sys2Proof.Machine

section
variable {s u t : State} {stale : Bool}

theorem Ordered.accepts (h : Ordered u) (items : State → List Byte) : Ordered (u.accepts items).1 := by
  rw [State.accepts_state]
  exact h.judge

/-- A command that changes nothing that these laws read and is then accepted. -/
theorem Ordered.acceptsUnread (h : Ordered s) (same : Unread s u) (items : State → List Byte) : Ordered (u.accepts items).1 :=
  (h.congr same).accepts items

/-! ## The stations and the codes (R29 to R32, R41, R42) -/

theorem Ordered.actLoadStation (h : Ordered s) (n count low : Nat) : Ordered (actLoadStation n count low s).1 := by
  unfold Machine.actLoadStation
  split
  · exact h
  · dsimp only
    split
    · exact h
    split
    · exact h
    split
    · exact h
    · refine Ordered.acceptsUnread h ?_ _
      split
      · exact State.setStation_unread _ _ _
      · exact (State.moveStation_unread _ _ _).after (State.setStation_unread _ _ _)

theorem Ordered.actLockStation (h : Ordered s) (n : Nat) : Ordered (actLockStation n s).1 := by
  unfold Machine.actLockStation
  split
  · exact h
  · dsimp only
    split
    case h_1 | h_2 => exact h.acceptsUnread (State.moveStation_unread _ _ _) _
    all_goals exact h

theorem Ordered.actUnlockStation (h : Ordered s) (n : Nat) : Ordered (actUnlockStation n s).1 := by
  unfold Machine.actUnlockStation
  split
  · exact h
  · dsimp only
    split
    case h_1 | h_2 => exact h.acceptsUnread (State.moveStation_unread _ _ _) _
    all_goals exact h

theorem Ordered.actResetStation (h : Ordered s) (n : Nat) : Ordered (actResetStation n s).1 := by
  unfold Machine.actResetStation
  split
  · exact h
  · dsimp only
    split
    case h_1 | h_2 =>
      exact h.acceptsUnread ((State.moveStation_unread _ _ _).after (State.setStation_unread _ _ _)) _
    all_goals exact h

theorem State.withStations_unread (s : State) (x : Stations) : Unread s { s with stations := x } := ⟨rfl, rfl⟩

theorem Ordered.actDefineCode (h : Ordered s) (f : CodeFields) : Ordered (actDefineCode f s).1 := by
  unfold Machine.actDefineCode
  split
  · exact h
  · split
    · exact h
    · split
      · exact h
      · refine Ordered.accepts ?_ _
        exact (h.congr (s.setOwners_unread _ _)).congr (State.withStations_unread (s.setOwners _ _) _)

theorem Ordered.actRemoveCode (h : Ordered s) (n : Nat) : Ordered (actRemoveCode n s).1 := by
  unfold Machine.actRemoveCode
  split
  · exact h
  split
  · exact h
  split
  · exact h
  · refine Ordered.accepts ?_ _
    exact (h.congr (s.setOwners_unread _ _)).congr (State.withStations_unread (s.setOwners _ _) _)

/-! ## The program store (R47, R48, R56, R59) -/

/-- The store is changed, out of LOADED only while the line is not working. -/
theorem Ordered.setStore (h : Ordered s) {st : Store} (o : ProgramOutcome)
    (idle : st.isLoaded = false → s.programs.store.isLoaded = true → s.working = false) : Ordered (s.setStore st o) :=
  ⟨h.governed.setStore idle, h.placed.ofCore ((State.noticeProgram_core _ _).trans rfl)⟩

theorem Ordered.actProgramBegin (h : Ordered s) (p n m o l) : Ordered (actProgramBegin p n m o l s).1 := by
  unfold Machine.actProgramBegin
  dsimp only
  split
  · exact h
  split
  · exact h
  split
  · exact h
  split
  · exact h
  · next idle =>
    split
    · exact h
    · exact (h.setStore _ fun _ _ => Bool.not_eq_true _ ▸ idle).accepts _

theorem Ordered.actProgramSteps (h : Ordered s) (n : Nat) (l : List StepRecord) : Ordered (actProgramSteps n l s).1 := by
  unfold Machine.actProgramSteps
  dsimp only
  split
  · exact h
  split
  · next store =>
    split
    · exact h
    split
    · exact h
    split
    · exact h
    · exact ⟨h.governed.withStore (by rw [store]; rfl), h.placed.ofCore rfl⟩
  · exact h

theorem Ordered.actProgramEnd (h : Ordered s) : Ordered (actProgramEnd s).1 := by
  unfold Machine.actProgramEnd
  dsimp only
  split
  · next store =>
    have unloaded : s.programs.store.isLoaded = false := by rw [store]; rfl
    have set {st : Store} (o : ProgramOutcome) : Ordered (s.setStore st o) :=
      h.setStore o fun _ loaded => by rw [unloaded] at loaded; cases loaded
    split
    · dsimp only
      exact (set _).judge
    · exact (set _).accepts _
  · exact h

theorem Ordered.actProgramClear (h : Ordered s) : Ordered (actProgramClear s).1 := by
  unfold Machine.actProgramClear
  split
  · exact h
  · next idle =>
    split
    · exact h
    · exact (h.setStore _ fun _ _ => Bool.not_eq_true _ ▸ idle).accepts _

/-! ## The boards (R64, R73 to R75) -/

theorem Ordered.actAnnounceBoard (h : Ordered s) (b p m) : Ordered (actAnnounceBoard b p m s).1 := by
  have g (bs : Boards) : Governed [] false ({ s with boards := bs } : State) := h.governed.congr rfl
  unfold Machine.actAnnounceBoard
  dsimp only
  split
  · split
    · exact h
    split
    · exact h
    split
    · exact h
    · next a active next =>
      split
      · exact h
      · next other =>
        refine Ordered.accepts ⟨g _, ?_⟩ _
        exact h.placed.announceNext active next other rfl rfl fun _ => buildList_fresh
    · next active =>
      split
      · exact h
      · refine Ordered.accepts ⟨g _, ?_⟩ _
        exact h.placed.announceActive active rfl fun _ => buildList_fresh
  · exact h

theorem Ordered.skipEntry (h : Ordered s) {ref : EntryRef} {e : Entry} (found : s.entry? ref = some e)
    (inHead : e.status ≠ .inHead) (open_ : e.status.terminal = false) : Ordered (s.skipEntry ref e) :=
  ⟨h.governed.congr (s.skipEntry_control ref e), h.placed.skipEntry found inHead open_⟩

theorem Ordered.actSkipStep (h : Ordered s) (b i n : Nat) : Ordered (actSkipStep b i n s).1 := by
  unfold Machine.actSkipStep
  split
  · exact h
  · next ref e named =>
    have skipped (inHead : e.status ≠ .inHead) (open_ : e.status.terminal = false) :
        Ordered ((s.skipEntry ref e).accepts fun _ => dispositionItems ref e.status .skipped).1 :=
      (h.skipEntry (State.named_ok named) inHead open_).accepts _
    split
    · next st =>
      split
      · exact skipped (by rw [st]; nofun) (by rw [st]; rfl)
      · exact h
    case h_7 | h_8 => exact h
    all_goals
      next st => exact skipped (by rw [st]; nofun) (by rw [st]; rfl)

theorem Ordered.actDisposeStep (h : Ordered s) (b i n d : Nat) : Ordered (actDisposeStep b i n d s).1 := by
  unfold Machine.actDisposeStep
  split
  · exact h
  · next ref e named =>
    have found := State.named_ok named
    split
    · exact h
    split
    · exact h
    · next failed =>
      rw [ne_eq, not_not] at failed
      split
      · exact Ordered.accepts ⟨h.governed.congr (State.modifyEntry_control _ _ _), h.placed.accept found failed⟩ _
      split
      · exact h
      split
      · exact h
      · next room =>
        refine Ordered.accepts ⟨?_, h.placed.remakeEntry found failed room⟩ _
        exact h.governed.congr rfl

theorem Ordered.actAbandonBoard (h : Ordered s) (b : Nat) : Ordered (actAbandonBoard b s).1 := by
  have abandoned (line : s.line = .held ∨ s.line = .ready ∨ s.line = .stopped) {r : Board} (board : s.board? b = some r) :
      Ordered (if s.isActive b then s.abandonEntries r else (s.abandonEntries r).removeNext) := by
    refine ⟨?_, h.placed.abandonBoard board ?_⟩
    · split
      · exact h.governed.congr (s.abandonEntries_control r)
      · exact (h.governed.congr (s.abandonEntries_control r)).congr (State.removeNext_control _)
    · have allows := h.governed.allows rfl
      unfold Line.allows at allows
      rcases line with e | e | e <;> rw [State.line] at e <;> rw [e] at allows <;> exact allows
  unfold Machine.actAbandonBoard
  split
  case h_4 => exact h
  all_goals
    next line =>
    split
    · exact h
    · next board => exact (abandoned (by simp [line]) board).accepts _

/-! ## The table (R121, R125) -/

theorem State.homing_core (s : State) (axes : Nat) (lost : List Axis) :
    (((((namedAxes axes).foldl State.startHoming s).homeTable axes).homeSpan axes).noticeUnhomed lost).core = s.core := by
  have started : ((namedAxes axes).foldl State.startHoming s).core = s.core :=
    foldl_keeps (P := fun u => u.core = s.core) (fun u _ hu => (State.setAxis_core u _ _).trans hu) _ rfl
  have table (u : State) : (u.homeTable axes).core = u.core := by
    unfold State.homeTable
    split
    · exact State.startWatch_core _ _ _
    · rfl
  have span (u : State) : (u.homeSpan axes).core = u.core := by
    unfold State.homeSpan
    split
    · exact State.startWatch_core _ _ _
    · rfl
  have noticed (u : State) : (u.noticeUnhomed lost).core = u.core := by
    unfold State.noticeUnhomed
    split
    · rfl
    · refine foldl_keeps (P := fun v => v.core = u.core) (fun v a hv => (v.noticeHomed_core a false).trans hv) _ ?_
      split
      · rfl
      · exact u.draw_core
  rw [noticed, span, table, started]

theorem Ordered.actHome (h : Ordered s) (axes : Nat) : Ordered (actHome axes s).1 := by
  have homed (idle : s.working = false) := Ordered.accepts (u := State.noticeUnhomed _ _)
    ⟨h.governed.home idle axes, h.placed.ofCore (s.homing_core axes _)⟩ fun _ => []
  have idle (line : s.line = .unready ∨ s.line = .ready ∨ s.line = .held) : s.working = false := by
    rcases line with e | e | e <;> simp [State.working, e]
  unfold Machine.actHome
  split
  · exact h
  · split
    case h_4 => exact h
    all_goals
      next line =>
      split
      · exact h
      split
      · exact h
      · exact homed (idle (by simp [line]))

theorem Ordered.actSetGeometry (h : Ordered s) (g) : Ordered (actSetGeometry g s).1 := by
  unfold Machine.actSetGeometry
  split
  · exact h
  split
  · exact h
  split
  · exact h
  split
  · exact h
  · refine Ordered.accepts ?_ _
    exact h.congr ⟨rfl, s.withGeometry_control g⟩

/-! ## The line (R188 to R192) -/

theorem Ordered.actRun (h : Ordered s) : Ordered (actRun s).1 := by
  have running (able : s.line = .ready ∨ s.line = .held) : Ordered s.enterRunning :=
    ⟨h.governed.enterRunning able, h.placed.enterRunning⟩
  unfold Machine.actRun
  split
  case h_3 => exact h
  all_goals
    next line =>
    split
    · exact h
    · exact (running (by simp [line])).accepts _

theorem Ordered.actHold (h : Ordered s) : Ordered (actHold s).1 := by
  unfold Machine.actHold
  split
  · next run => exact Ordered.accepts ⟨h.governed.enterHolding run, h.placed.enterHolding⟩ _
  · exact h

theorem Ordered.actStop (h : Ordered s) : Ordered (actStop s).1 := by
  unfold Machine.actStop
  split
  · exact h
  · exact Ordered.accepts ⟨(h.governed.enterStopped _).1, h.placed.enterStopped _⟩ _

theorem Ordered.actRecover (h : Ordered s) : Ordered (actRecover s).1 := by
  unfold Machine.actRecover
  split
  · split
    · exact h
    · exact Ordered.accepts ⟨h.governed.enterRecovering, h.placed.enterRecovering⟩ _
  · exact h

/-! ## Every command -/

theorem State.ackSource_unread (s : State) (src : Source) : Unread s (s.ackSource src) := by
  unfold State.ackSource
  split
  · exact ⟨State.setSource_core _ _ _, State.setSource_control _ _ _⟩
  · exact Unread.refl s

theorem Ordered.actSetDebounce (h : Ordered s) (a b c : Nat) : Ordered (actSetDebounce a b c s).1 := by
  unfold Machine.actSetDebounce
  dsimp only
  split
  · refine Ordered.accepts (takeArrivals_keeps (fun s hs => hs.congr ⟨s.draw_core, s.draw_control⟩)
      (fun _ i hs => ⟨hs.governed.slowArrival i, hs.placed.slowArrival i⟩) _ _ ?_) _
    exact h.congr ⟨rfl, rfl⟩
  · exact h

/-- Every command of the host keeps these laws. -/
theorem Ordered.act (h : Ordered s) (i : Instr) : Ordered (act i s).1 := by
  cases i
  case loadStation t k c l => exact h.actLoadStation k c l
  case lockStation t k => exact h.actLockStation k
  case unlockStation t k => exact h.actUnlockStation k
  case resetStation t k => exact h.actResetStation k
  case defineCode t f => exact h.actDefineCode f
  case removeCode t c => exact h.actRemoveCode c
  case skipStep t b i n => exact h.actSkipStep b i n
  case disposeStep t b i n d => exact h.actDisposeStep b i n d
  case abandonBoard t b => exact h.actAbandonBoard b
  case home t a => exact h.actHome a
  case programBegin t p n m o l => exact h.actProgramBegin p n m o l
  case programSteps t n l => exact h.actProgramSteps n l
  case programEnd t => exact h.actProgramEnd
  case programClear t => exact h.actProgramClear
  case announceBoard t b p m => exact h.actAnnounceBoard b p m
  case setGeometry t g => exact h.actSetGeometry g
  case setDebounce t a b c => exact h.actSetDebounce a b c
  case run t => exact h.actRun
  case hold t => exact h.actHold
  case stop t => exact h.actStop
  case recover t => exact h.actRecover
  case setStationGroup t g e b m c =>
    dsimp only [Machine.act, actSetStationGroup]
    repeat' split
    all_goals first | exact h | exact h.congr ⟨rfl, rfl⟩
  case setFireDwell t d =>
    dsimp only [Machine.act, actSetFireDwell]
    split
    · exact h.congr ⟨rfl, rfl⟩
    · exact h
  case setFailThreshold t n =>
    dsimp only [Machine.act, actSetFailThreshold]
    split
    · exact h.congr ⟨rfl, rfl⟩
    · exact h
  case setAlarmClass t n c =>
    dsimp only [Machine.act, actSetAlarmClass]
    repeat' split
    all_goals first | exact h | exact h.congr ⟨rfl, rfl⟩
  case ackAlarms t n =>
    dsimp only [Machine.act, actAckAlarms]
    split
    · exact h
    · exact foldl_keeps (P := Ordered) (fun u src hu => hu.congr (u.ackSource_unread src)) _ h
  case readPocket t p =>
    dsimp only [Machine.act, actReadPocket]
    split <;> exact h
  case readStation t k =>
    dsimp only [Machine.act, actReadStation]
    split <;> exact h
  case readCode t c =>
    dsimp only [Machine.act, actReadCode]
    repeat' split
    · exact h
    · exact h
    · exact h.congr ⟨s.draw_core, s.draw_control⟩
    · exact h
  case readBoard t n i =>
    dsimp only [Machine.act, actReadBoard]
    repeat' split
    all_goals exact h
  case setTiming t x => exact h.congr ⟨rfl, rfl⟩
  case clearCapture t => exact h.congr ⟨rfl, rfl⟩
  case reset t => exact h.congr ⟨rfl, rfl⟩
  case readHead t => exact h.congr ⟨rfl, rfl⟩
  all_goals exact h

end

end Sys2Proof.Machine

/-! PROOFS. Every step keeps the pending-fire counts equal to the ASSIGNED pockets, and the entries in agreement with the pockets, the
return queue and the head (R3, R25, R70). -/

namespace Sys2Proof.Machine

section
variable {s : State} {stale : Bool}

/-! ## A passing ms (R106, R120, R171) -/

/-- A measurement whose time runs down is for the same pocket, entry and station. -/
theorem Mech.tickVerifier (h : Mech 0 s) : Mech 0 { s with verifier := s.verifier.tick } where
  formed := h.formed
  stands := h.stands
  flight m hm := by
    obtain ⟨m', flight, rfl⟩ := Option.map_eq_some_iff.mp (hm : s.verifier.flight.map _ = some m)
    exact h.flight m' flight
  picked := h.picked
  still moving := ⟨by show s.verifier.flight.map _ = none; rw [(h.still moving).1]; rfl, (h.still moving).2⟩
  fits := h.fits

theorem Placed.tick (h : Placed stale s) : Placed stale s.tick := by
  have core : s.tick.core = ({ s with verifier := s.verifier.tick } : State).core := by
    unfold State.tick State.issueSteps
    exact (State.draw_core _).trans rfl
  exact Placed.ofCore ⟨h.mech.tickVerifier, h.hauled.congr rfl, h.entries.congr rfl⟩ core

theorem AxisRec.issue_bare (a : AxisRec) (steps : Int) : (a.issue steps).bare = a.bare := by
  rw [AxisRec.issue_keeps]
  rfl

theorem State.tick_control (s : State) : s.tick.control = s.control := by
  unfold State.tick State.issueSteps
  dsimp only
  rw [State.draw_control]
  simp only [State.control, AxisRec.issue_bare]
  rfl

theorem Ordered.tick (h : Ordered s) : Ordered s.tick := ⟨h.governed.congr s.tick_control, h.placed.tick⟩

/-! ## A reset (R2, R70, R80, R138, R156, R195) -/

/-- After a reset no pocket is known, no board is announced and the head is empty. -/
theorem placed_afterReset (cause : ResetCause) (lv : Levels) (drawn : Nat) (pending : List Instr) :
    Placed false (State.afterReset cause lv drawn pending) := by
  have pocket p : (State.afterReset cause lv drawn pending).pocket p = {} := vget_replicate _ _
  have head : (State.afterReset cause lv drawn pending).head.state = .top
      ∨ (State.afterReset cause lv drawn pending).head.state = .halted .reset false := by
    simp only [State.afterReset, Head.afterReset]
    split
    · exact .inl rfl
    · exact .inr rfl
  have formed : PocketLaw (State.afterReset cause lv drawn pending) := fun p => by rw [pocket]; exact ⟨rfl, rfl, rfl, rfl⟩
  refine ⟨⟨formed, fun p => by rw [pocket]; trivial, nofun, fun picking => ?_, fun moving => absurd rfl moving,
    ⟨nofun, nofun, ?_⟩⟩, ⟨nofun, nofun, fun _ => rfl, fun busy => absurd rfl busy, nofun⟩, ?_⟩
  · rcases head with e | e <;> rw [e] at picking <;> cases picking
  · refine iff_of_false (fun e => ?_) fun ⟨d, e⟩ => by cases e
    rcases head with e' | e' <;> rw [e'] at e <;> cases e
  · have empty : (State.afterReset cause lv drawn pending).chain.pockets.toList.countP (fun k => k.entry.isSome) = 0 := by
      rw [List.countP_eq_zero]
      intro v hv
      obtain ⟨p, rfl⟩ := mem_toList_iff_vget.mp hv
      simp [show vget (State.afterReset cause lv drawn pending).chain.pockets p = {} from pocket p]
    refine ⟨fun ref => EntryPlaced.gone rfl (fun p => by rw [pocket]; nofun) nofun (fun ⟨_, e, _⟩ => by cases e) rfl,
      List.nodup_nil, ?_, nofun⟩
    unfold State.entriesInWork
    rw [empty]
    exact Nat.zero_le _

theorem ordered_resetWith (s : State) (cause : ResetCause) (lv : Levels) : Ordered (s.resetWith cause lv) := by
  refine ⟨governed_resetWith s cause lv, ?_⟩
  have fresh := placed_afterReset cause lv s.drawn s.pending
  unfold State.resetWith
  dsimp only
  split
  · exact fresh.estopArrive.judge
  · exact fresh

/-! ## Every step -/

/-- The supply laws, the laws of the line and those of the places hold together through a walk over every row. -/
theorem agreed_walked : Walked fun s => Supplied none s ∧ Ordered s where
  link s l h := ⟨supplied_walked.link s l h.1, h.2.congr ⟨rfl, rfl⟩⟩
  queue s q h := ⟨supplied_walked.queue s q h.1, h.2.congr ⟨rfl, rfl⟩⟩
  act i _ h := ⟨h.1.act i, h.2.act i⟩
  row i _ _ m h e := ⟨h.1.row i m e, h.2.row h.1.place i m e⟩
  reset s cause lv := ⟨supplied_resetWith s cause lv, ordered_resetWith s cause lv⟩
  tick s h := ⟨supplied_walked.tick s h.1, h.2.tick.judge⟩

/-- What the walk carries is the laws that the statement names. -/
theorem agreed_iff : Supplied none s ∧ Ordered s ↔ (CodeLaw s ∧ PlaceLaw s ∧ PendingLaw s)
    ∧ (PocketLaw s ∧ TransportLaw s ∧ ReadinessLaw s) ∧ StandLaw s ∧ HoldLaw s ∧ EntryLaw s := by
  constructor
  · rintro ⟨supplied, governed, mech, hauled, entries⟩
    obtain ⟨ready, allows⟩ := governed_iff.mp governed
    obtain ⟨formed, stands, fits⟩ := mech_iff.mp mech
    exact ⟨supplied_iff.mp supplied, ⟨formed, transportLaw_iff.mpr hauled, ready⟩, stands, holdLaw_iff.mpr ⟨fits, allows⟩,
      (entryLaw_iff formed).mpr entries⟩
  · rintro ⟨supplied, ⟨formed, transport, ready⟩, stands, holds, entries⟩
    obtain ⟨fits, allows⟩ := holdLaw_iff.mp holds
    exact ⟨supplied_iff.mpr supplied, governed_iff.mpr ⟨ready, allows⟩, mech_iff.mpr ⟨formed, stands, fits⟩,
      transportLaw_iff.mp transport, (entryLaw_iff formed).mp entries⟩

end

/-- Settles O20: the laws are carried through every row by the owners' actions, the events of the world and the judgement at the
end of an event. -/
theorem pendingCountsAgree : Obligations.PendingCountsAgree :=
  ⟨supplyLaws_kept, fun s t h e => agreed_iff.mp (agreed_walked.kept s t (agreed_iff.mpr h) e)⟩

end Sys2Proof.Machine

/-! PROOFS. The host's settings of dispensing (R93, R117, R175): what each command keeps, and where the fire dwell and the fail
threshold in force are used. -/

namespace Sys2Proof.Machine

/-! ## The values refused and the values brought into range -/

theorem within_iff {lo hi n : Nat} : within lo hi n = true ↔ lo ≤ n ∧ n ≤ hi := by simp [within]

/-- The fail-run counter rises by 1 and stays at 15 (R114). -/
theorem failInc_eq_min (n : Nat) : failInc n = min 15 (n + 1) := by
  unfold failInc
  split <;> omega

section
variable {s : State} {tag : Byte}

/-- A command that sets one number answers OK with the number where it lies in its range, and refuses it elsewhere, with only
the frame counted. -/
theorem answers_of_setting {u : State} {i : Instr} {kind reply : Byte} {lo hi n : Nat} (taken : s.takesAtOnce)
    (row : exec i s = .next (s.command i kind tag))
    (acted : act i s.countAccepted
      = if within lo hi n then u.answers (u8 n) else s.countAccepted.refuses .badValue)
    (sum : kind + 0x80#8 = reply) :
    if lo ≤ n ∧ n ≤ hi then Answers i s u reply tag (0x00#8 :: u8 n)
    else Answers i s s.countAccepted reply tag [0x03#8] := by
  split
  case isTrue inRange => exact answers_of_act taken row (acted.trans (if_pos (within_iff.mpr inRange))) sum rfl
  case isFalse outside => exact answers_of_act taken row (acted.trans (if_neg (mt within_iff.mp outside))) sum rfl

/-- SET_TIMING refuses no value: all seven timeouts are replaced, each brought into its range (R175). -/
theorem setTiming_answers (taken : s.takesAtOnce) (t : Timeouts) :
    Answers (.setTiming tag t) s { s.countAccepted with inputs := { s.inputs with timeouts := clampTimeouts t } } 0xA1#8 tag
      (0x00#8 :: timeoutBytes (clampTimeouts t)) := answers_of_act taken rfl rfl rfl rfl

end

/-! ## The dwell of a fire (R90, R93) -/

@[simp] theorem State.raise_fireUnit (s : State) (src : Source) (c : AlarmClass) (x : Context) (k : Fin 80) :
    (s.raise src c x).fireUnit k = s.fireUnit k := by
  simp only [State.fireUnit, (s.raise_steady src c x).stations]

theorem State.judge_stations (s : State) : s.judge.stations = s.stations := by
  obtain ⟨u, before, after⟩ := s.judge_steady
  obtain ⟨_, _, started, -⟩ := u.startStroke_keeps
  exact (after.stations.trans started.stations).trans before.stations

@[simp] theorem State.judge_fireUnit (s : State) (k : Fin 80) : s.judge.fireUnit k = s.fireUnit k := by
  simp only [State.fireUnit, s.judge_stations]

/-- A fire energises the output of its station for the dwell in force when it is taken. -/
theorem State.fireInto_fireUnit (s : State) (k : Fin 80) (p : Fin 128) :
    (s.fireInto k p).fireUnit k = ⟨true, some s.stations.dwellLength⟩ := by
  unfold State.fireInto
  dsimp only
  split <;> simp

theorem State.fire_fireUnit {s : State} {k : Fin 80} (due : s.fireDue k = true) :
    (s.fire k).fireUnit k = ⟨true, some s.stations.dwellLength⟩ := by
  rw [State.fire, if_pos due, State.fireInto_fireUnit]

/-! ## The threshold of a fail notice (R114, R117) -/

/-- A fail notice whose counter does not come to the threshold in force counts, and no more. -/
theorem State.failNotice_of_ne {s : State} {k : Fin 80} (short : (s.station k).failRun + 1 ≠ s.verifier.threshold) :
    s.failNotice k = s.setStation k { s.station k with failRun := min 15 ((s.station k).failRun + 1) } := by
  rw [State.failNotice, if_neg fun reached => short reached.2, failInc_eq_min]

/-- A fail notice whose counter rises to the threshold in force quarantines the station. -/
theorem State.failNotice_of_eq {s : State} {k : Fin 80} (reached : (s.station k).failRun + 1 = s.verifier.threshold)
    (room : (s.station k).failRun < 15) :
    s.failNotice k = (s.setStation k { s.station k with failRun := (s.station k).failRun + 1 }).quarantine k := by
  rw [State.failNotice, if_pos ⟨room, reached⟩, failInc, if_pos room]

/-- Settles O47: each command by its owner's action, the dwell by what a fire writes last on its fire unit, and the threshold by
the two cases of a fail notice. -/
theorem hostSettings : Obligations.HostSettings := by
  refine ⟨fun tag n s taken => ⟨answers_of_setting taken rfl rfl rfl, answers_of_setting taken rfl rfl rfl⟩,
    fun tag t s taken => setTiming_answers taken t, fun s k due => ⟨_, rfl, ?dwell⟩,
    fun s k reached room => State.failNotice_of_eq reached room, fun s k short => State.failNotice_of_ne short,
    rfl, rfl, rfl⟩
  case dwell => rw [State.judge_fireUnit, State.fire_fireUnit due]

end Sys2Proof.Machine

/-! PROOFS. Component verification (R103 to R108): a mantissa of four digits, and the judgement of readings by kind. -/

namespace Sys2Proof.Machine

/-! ## Normalisation (R103) -/

/-- The count of decimal digits says between which powers of ten a mantissa lies. -/
theorem digits_spec {m : Nat} (pos : 1 ≤ m) (four : m ≤ 9999) :
    1 ≤ digits m ∧ digits m ≤ 4 ∧ 10 ^ (digits m - 1) ≤ m ∧ m < 10 ^ digits m := by
  unfold digits
  split_ifs <;> norm_num <;> omega

/-- A mantissa of 1..9999 is normalised to four digits: the shift completes the powers of ten around it to 10³ and 10⁴. -/
theorem VerifySpec.mant_four_digits {v : VerifySpec} (pos : 1 ≤ v.m) (four : v.m ≤ 9999) :
    1000 ≤ v.mant ∧ v.mant ≤ 9999 := by
  obtain ⟨one, atMost, above, below⟩ := digits_spec pos four
  have lower : 10 ^ (digits v.m - 1) * 10 ^ (4 - digits v.m) ≤ v.mant := Nat.mul_le_mul_right _ above
  have upper : v.mant < 10 ^ digits v.m * 10 ^ (4 - digits v.m) :=
    Nat.mul_lt_mul_of_pos_right below (Nat.pow_pos (by decide))
  rw [← pow_add] at lower upper
  rw [show digits v.m - 1 + (4 - digits v.m) = 3 by omega] at lower
  rw [Nat.add_sub_cancel' atMost] at upper
  omega

/-! ## The comparison with the band (R105) -/

/-- A reading is over the range exactly where its count is above 19999. -/
theorem judgeBand_eq_overRange {count mant tl th : Nat} : judgeBand count mant tl th = .overRange ↔ 19999 < count := by
  unfold judgeBand
  split_ifs with beyond <;> simp [beyond]

/-- A reading in range passes exactly where its count lies in the band, both ends included. -/
theorem judgeBand_eq_pass {count mant tl th : Nat} (inRange : count ≤ 19999) :
    judgeBand count mant tl th = .pass ↔ mant * (1000 - tl) ≤ count * 1000 ∧ count * 1000 ≤ mant * (1000 + th) := by
  rw [judgeBand, if_neg inRange.not_gt]
  split_ifs with low pass
  · exact iff_of_false nofun fun band => band.1.not_gt low
  · exact iff_of_true rfl ⟨not_lt.mp low, pass⟩
  · exact iff_of_false nofun fun band => pass band.2

/-! ## The judgement by kind (R107, R108) -/

theorem conducts_iff {count mant th : Nat} :
    conducts count mant th = true ↔ count ≤ 19999 ∧ count * 1000 ≤ mant * (1000 + th) := by simp [conducts]

section
variable {m : Measurement} {forward reverse : Nat}

/-- A DIODE whose forward reading is in range is judged by that reading alone. -/
theorem Measurement.judge_diode_of_inRange (diode : m.kind = .diode) (inRange : ¬ 19999 < forward) :
    m.judge forward reverse = judgeBand forward m.mant m.tl m.th := by
  have read : judgeBand forward m.mant m.tl m.th ≠ .overRange := mt judgeBand_eq_overRange.mp inRange
  rw [Measurement.judge, diode]
  dsimp only
  split
  case h_1 reading => exact absurd reading read
  case h_2 => rfl

/-- A DIODE whose forward reading is over the range has its reverse reading consulted. -/
theorem Measurement.judge_diode_of_over (diode : m.kind = .diode) (beyond : 19999 < forward) :
    m.judge forward reverse = if conducts reverse m.mant m.th then .polarity else .overRange := by
  simp only [Measurement.judge, diode, judgeBand_eq_overRange.mpr beyond]

/-- A DIODE is of wrong polarity exactly where the forward reading is over the range and the reverse reading conducts; in every
other case the forward reading is judged by its band. -/
theorem Measurement.judge_diode (diode : m.kind = .diode) : m.judge forward reverse =
    if 19999 < forward ∧ reverse ≤ 19999 ∧ reverse * 1000 ≤ m.mant * (1000 + m.th) then .polarity
    else judgeBand forward m.mant m.tl m.th := by
  by_cases beyond : 19999 < forward
  case neg => rw [judge_diode_of_inRange diode beyond, if_neg fun both => beyond both.1]
  case pos => simp only [judge_diode_of_over diode beyond, conducts_iff, beyond, true_and, judgeBand_eq_overRange.mpr beyond]

theorem Measurement.judge_of_twoSided (kind : m.kind = .res ∨ m.kind = .cap) :
    m.judge forward reverse = judgeBand forward m.mant m.tl m.th := by
  rcases kind with kind | kind <;> rw [Measurement.judge, kind]

theorem Measurement.judge_link (link : m.kind = .link) : m.judge forward reverse = judgeLink forward := by
  rw [Measurement.judge, link]

end

/-! ## The durations and the range of the front end (R104, R106, R107) -/

/-- A CAP of a small exponent is measured in 6 ms, any other in 25. -/
theorem VerifySpec.duration_cap {v : VerifySpec} (cap : v.kind = .cap) :
    v.duration = if v.expo ≤ -10 then 6 else 25 := by rw [duration, cap]

/-- Settles O48: the normalisation by the powers of ten around a mantissa, the judgement of each kind by its own lemma, and the
band's ends by distributing the tolerances over the mantissa. -/
theorem verifyArithmetic : Obligations.VerifyArithmetic := by
  refine ⟨fun v pos four => ?normal, fun _ _ _ _ => rfl,
    fun m f r => ⟨Measurement.judge_of_twoSided, Measurement.judge_link, Measurement.judge_diode⟩,
    fun v => ?times, fun count mant tl th inRange _ => ?band⟩
  case normal =>
    obtain ⟨lower, upper⟩ := VerifySpec.mant_four_digits pos four
    obtain ⟨one, -⟩ := digits_spec pos four
    exact ⟨lower, upper, 4 - digits v.m, by omega, rfl, rfl⟩
  case times =>
    refine ⟨fun res => ?_, fun diode => ?_, fun link => ⟨?_, if_pos link⟩, fun cap small => ?_, fun cap large => ?_,
      fun other => if_neg other⟩
    · rw [VerifySpec.duration, res]
    · rw [VerifySpec.duration, diode]
    · rw [VerifySpec.duration, link]
    · rw [VerifySpec.duration_cap cap, if_pos small]
    · rw [VerifySpec.duration_cap cap, if_neg large.not_ge]
  case band => rw [judgeBand_eq_pass inRange, Nat.mul_sub, Nat.mul_add]

end Sys2Proof.Machine

/-! PROOFS. Table positioning (R127, R128): the rounding to counts, the ranges of the stages, and the target of a step. -/

namespace Sys2Proof.Machine

/-! ## The rounding of stage 5 (R128) -/

section
variable {q : Int}

theorem roundCounts_of_nonneg (nonneg : 0 ≤ q) : roundCounts q = (q + 500000) / 1000000 := if_pos nonneg

theorem roundCounts_of_neg (negative : q < 0) : roundCounts q = -((500000 - q) / 1000000) := if_neg negative.not_ge

/-- The rounded count lies at most half a count from the exact one. -/
theorem roundCounts_nearest : 2 * (roundCounts q * 1000000 - q).natAbs ≤ 1000000 := by
  obtain negative | nonneg := lt_or_ge q 0
  · rw [roundCounts_of_neg negative]
    omega
  · rw [roundCounts_of_nonneg nonneg]
    omega

/-- Halves go away from zero on both sides, so that the rounding is odd. -/
theorem roundCounts_neg : roundCounts (-q) = -roundCounts q := by
  obtain negative | rfl | positive := lt_trichotomy q 0
  · rw [roundCounts_of_neg negative, roundCounts_of_nonneg (by omega), neg_neg, neg_add_eq_sub]
  · rfl
  · rw [roundCounts_of_nonneg positive.le, roundCounts_of_neg (by omega), sub_neg_eq_add, add_comm]

end

/-! ## The travel limits and the offset of an image (R46, R128) -/

theorem withinInt_iff {lo hi n : Int} : withinInt lo hi n = true ↔ lo ≤ n ∧ n ≤ hi := by
  rw [withinInt, Bool.and_eq_true, decide_eq_true_iff, decide_eq_true_iff]

theorem inTravel_iff {g : Geometry} {t : Int × Int × Int} : inTravel g t = true ↔
    g.xmin ≤ t.1 ∧ t.1 ≤ g.xmax ∧ g.ymin ≤ t.2.1 ∧ t.2.1 ≤ g.ymax := by
  rw [inTravel, Bool.and_eq_true, withinInt_iff, withinInt_iff, and_assoc]

theorem Header.offset_eq_getD (h : Header) (image : Nat) : h.offset image = (h.offsets[image]?).getD (0, 0) :=
  List.getD_eq_getElem?_getD ..

/-! ## The ranges of the stages (R124, R127, R128) -/

/-- A rotation by a multiple of 90 degrees keeps a point in a square around the centre of the rotation. -/
theorem rotate_within {r u v : Int} (d : Nat) (hu : -r ≤ u ∧ u ≤ r) (hv : -r ≤ v ∧ v ≤ r) :
    (-r ≤ (rotate d u v).1 ∧ (rotate d u v).1 ≤ r) ∧ -r ≤ (rotate d u v).2 ∧ (rotate d u v).2 ≤ r := by
  unfold rotate
  split <;> dsimp only <;> omega

/-- A panel point lies within 120000 pu of the rotation centre on either side. -/
theorem panel_relative_within {p offset centre : Nat} (hp : p ≤ 60000) (ho : offset ≤ 60000) (hc : centre ≤ 60000) :
    -120000 ≤ (p + offset - centre : Int) ∧ (p + offset - centre : Int) ≤ 120000 := by omega

/-- A table position, from the head point and a rotated side. -/
theorem table_position_within {head : Nat} {w : Int} (hh : head ≤ 120000) (hw : -120000 ≤ w ∧ w ≤ 120000) :
    -120000 ≤ head - w ∧ head - w ≤ 240000 := by omega

/-- The product of stage 5 at the largest table position and the largest scale correction is 9.6192 × 10^11. -/
theorem scale_product_natAbs_le {t ppm : Int} (position : -120000 ≤ t ∧ t ≤ 240000) (low : -2000 ≤ ppm) (high : ppm ≤ 2000) :
    (t * 4 * (1000000 + ppm)).natAbs ≤ 970000000000 := by
  have ht : t.natAbs ≤ 240000 := by omega
  have hs : (1000000 + ppm).natAbs ≤ 1002000 := by omega
  rw [Int.natAbs_mul, Int.natAbs_mul]
  calc t.natAbs * 4 * (1000000 + ppm).natAbs ≤ 240000 * 4 * 1002000 :=
        Nat.mul_le_mul (Nat.mul_le_mul_right 4 ht) hs
    _ ≤ 970000000000 := by norm_num

/-- Settles O40: each direction by its own row of the rotation, the rounding by the sign of the product, and the ranges by
following the stages from the panel point to the product. -/
theorem targetArithmetic : Obligations.TargetArithmetic := by
  refine ⟨fun g x y ox oy => ?directions, fun q => ⟨roundCounts_of_nonneg, roundCounts_of_neg, roundCounts_nearest,
    roundCounts_neg⟩, Header.offset_eq_getD, fun g t => inTravel_iff,
    fun g x y d ox oy hhx hhy hrcx hrcy sxLow sxHigh syLow syHigh hx hy hox hoy _ => ?ranges⟩
  case directions =>
    simp only [target, rotate, scaled, sub_neg_eq_add]
    exact ⟨rfl, rfl, rfl, rfl⟩
  case ranges =>
    obtain ⟨side, side'⟩ := rotate_within d (panel_relative_within hx hox hrcx) (panel_relative_within hy hoy hrcy)
    have posX := table_position_within hhx side
    have posY := table_position_within hhy side'
    exact ⟨_, _, posX.1, posX.2, posY.1, posY.2, scale_product_natAbs_le posX sxLow sxHigh,
      scale_product_natAbs_le posY syLow syHigh, rfl, rfl⟩

end Sys2Proof.Machine

/-! PROOFS. Alarms (R180 to R184, R191): the numbers of the sources and their sets, what a raise records, the class slots, and what
an acknowledgement clears. -/

namespace Sys2Proof.Machine

/-! ## Sets of sources on the link (R177, R182) -/

/-- A number is the sum of the powers of two at its bits. -/
theorem sum_two_pow_eq_ofBits {n : Nat} (f : Fin n → Bool) :
    ((List.finRange n).map fun i => if f i then 2 ^ i.val else 0).sum = Nat.ofBits f := by
  induction n with
  | zero => rfl
  | succ n ih =>
    have doubled : ∀ i : Fin n, (if f i.succ then 2 ^ i.succ.val else 0) = 2 * if f i.succ then 2 ^ i.val else 0 := by
      intro i
      split <;> simp [pow_succ, mul_comm]
    have low : (if f 0 then 2 ^ (0 : Fin (n + 1)).val else 0) = (f 0).toNat := by cases f 0 <;> rfl
    rw [Nat.ofBits_succ, ← ih, List.finRange_succ, List.map_cons, List.sum_cons, List.map_map, low, add_comm,
      ← List.sum_map_mul_left]
    simp only [Function.comp_def, doubled]

/-- The source at one of the 21 places. -/
def sourceAt (i : Fin 21) : Source := allSources.get i

theorem sourceAt_idx (src : Source) : sourceAt src.idx = src := by cases src <;> rfl

theorem idx_sourceAt : ∀ i, (sourceAt i).idx = i := by decide

theorem allSources_eq_map : allSources = (List.finRange 21).map sourceAt := by decide

theorem mem_allSources (src : Source) : src ∈ allSources := by
  rw [allSources_eq_map]
  exact List.mem_map.mpr ⟨src.idx, List.mem_finRange _, sourceAt_idx src⟩

theorem sourceSet_eq_ofBits (p : Source → Bool) : sourceSet p = Nat.ofBits fun i => p (sourceAt i) := by
  rw [sourceSet, allSources_eq_map, List.map_map, ← sum_two_pow_eq_ofBits]
  simp only [Function.comp_def, idx_sourceAt]

theorem sourceSet_lt (p : Source → Bool) : sourceSet p < 2 ^ 21 := sourceSet_eq_ofBits p ▸ Nat.ofBits_lt_two_pow _

/-- A source is in a set exactly where the bit before its number is set. -/
theorem sourceSet_testBit (p : Source → Bool) (src : Source) : (sourceSet p).testBit (src.num - 1) = p src := by
  rw [sourceSet_eq_ofBits, Source.num, Nat.add_sub_cancel, Nat.testBit_ofBits_lt _ _ src.idx.isLt, Fin.eta, sourceAt_idx]

/-! ## A raise (R180, R181, R183, R191) -/

/-- The counts of raises and of captures that overflow rise by 1 and stay at 255. -/
theorem holdInc_eq_min (n : Nat) : holdInc n = min 255 (n + 1) := by
  unfold holdInc
  split <;> omega

theorem AlarmClass.serious_eq_decide (c : AlarmClass) : c.serious = decide (c = .hold ∨ c = .stop) := by cases c <;> rfl

theorem SourceRec.raised_eq (r : SourceRec) (cls : AlarmClass) (ctx : Context) : r.raised cls ctx = { r with
    pending := true, context := ctx, count := min 255 (r.count + 1), cls := if r.cls.num < cls.num then cls else r.cls } := by
  rw [SourceRec.raised, holdInc_eq_min, AlarmClass.higher]

/-- A class below HOLD leaves the capture record; the first serious raise fills it, and a later one overflows it. -/
theorem Capture.judged_eq (c : Capture) (src : Source) (cls : AlarmClass) (ctx : Context) (line : LineState) (time : Nat) :
    c.judged src cls ctx line time = if cls.serious = false then c
      else if c.content = none then { c with content := some ⟨src, cls, line, ctx, time⟩ }
      else { c with overflow := min 255 (c.overflow + 1) } := by
  obtain ⟨_ | content, overflow⟩ := c <;> cases h : cls.serious <;> simp [Capture.judged, h, holdInc_eq_min]

theorem State.emit_line (s : State) (kind : Byte) (payload : List Byte) : (s.emit kind payload).line = s.line := by
  rw [State.line, State.emit_alarms]
  rfl

/-- The record of a raise leaves the line as it is. -/
theorem State.recordRaise_line (s : State) (src : Source) (cls : AlarmClass) (ctx : Context) :
    (s.recordRaise src cls ctx).line = s.line := State.emit_line _ _ _

theorem State.raise_of_ne_none (s : State) (src : Source) {cls : AlarmClass} (ctx : Context) (raised : cls ≠ .none) :
    s.raise src cls ctx = (s.recordRaise src cls ctx).lineEffect src cls := by
  cases cls
  case none => exact absurd rfl raised
  case warn | hold | stop => rfl

/-! ## The class slots (R177, R178) -/

theorem AlarmClass.ofNum_num (c : AlarmClass) : AlarmClass.ofNum c.num = some c := by cases c <;> rfl

theorem AlarmClass.ofNum_of_gt {n : Nat} (beyond : 3 < n) : AlarmClass.ofNum n = Option.none := by
  obtain ⟨k, rfl⟩ := Nat.exists_eq_add_of_lt beyond
  rw [show 3 + k + 1 = k + 4 by omega]
  rfl

/-- The four slots with the one of this number given a class. -/
def Slots.replaced (t : Slots) (slot : Nat) (c : AlarmClass) : Slots :=
  ⟨if slot = 0 then c else t.guardAir, if slot = 1 then c else t.transport, if slot = 2 then c else t.supply,
    if slot = 3 then c else t.insert⟩

theorem Slots.put_of_le (t : Slots) {slot : Nat} (c : AlarmClass) (inRange : slot ≤ 3) :
    t.put slot c = some (t.replaced slot c) := by interval_cases slot <;> rfl

theorem Slots.put_of_gt (t : Slots) {slot : Nat} (c : AlarmClass) (beyond : 3 < slot) : t.put slot c = none := by
  obtain ⟨k, rfl⟩ := Nat.exists_eq_add_of_lt beyond
  rw [show 3 + k + 1 = k + 4 by omega]
  rfl

section
variable {s : State} {slot n : Nat}

theorem actSetAlarmClass_of_working (working : s.working = true) :
    actSetAlarmClass slot n s = s.refuses .wrongState := if_pos working

theorem actSetAlarmClass_of_bad (idle : ¬ s.working = true) (bad : 3 < slot ∨ 3 < n) :
    actSetAlarmClass slot n s = s.refuses .badValue := by
  have unknown : (AlarmClass.ofNum n).bind (s.alarms.slots.put slot) = none := by
    rcases bad with slotBad | classBad
    · exact Option.bind_eq_none_iff.mpr fun c _ => Slots.put_of_gt _ c slotBad
    · rw [AlarmClass.ofNum_of_gt classBad, Option.bind_none]
  rw [actSetAlarmClass, if_neg idle, unknown]

theorem actSetAlarmClass_of_good (idle : ¬ s.working = true) (cls : AlarmClass) (inRange : slot ≤ 3) :
    actSetAlarmClass slot cls.num s = State.answers
      { s with alarms := { s.alarms with slots := s.alarms.slots.replaced slot cls } }
      (slotBytes (s.alarms.slots.replaced slot cls)) := by
  rw [actSetAlarmClass, if_neg idle, AlarmClass.ofNum_num, Option.bind_some, Slots.put_of_le _ cls inRange]

end

/-! ## An acknowledgement (R182) -/

/-- What an acknowledgement makes of the record of a source it names: cleared where it is pending, unless it stays. -/
def SourceRec.acked (r : SourceRec) (stays : Bool) : SourceRec := if r.pending && !stays then r.cleared else r

/-- A second acknowledgement changes nothing more. -/
theorem SourceRec.acked_acked (r : SourceRec) (stays : Bool) : (r.acked stays).acked stays = r.acked stays := by
  by_cases clears : (r.pending && !stays) = true
  case pos =>
    have cleared : r.acked stays = r.cleared := if_pos clears
    rw [cleared]
    exact if_neg Bool.false_ne_true
  case neg =>
    have kept : r.acked stays = r := if_neg clears
    rw [kept, kept]

theorem State.ackSource_stays (s : State) (a src : Source) : (s.ackSource a).stays src = s.stays src := by
  rw [State.ackSource]
  split <;> rfl

/-- The acknowledgement of a source writes its record and no other. -/
theorem State.ackSource_source (s : State) (a src : Source) :
    (s.ackSource a).source src = if src = a then (s.source src).acked (s.stays src) else s.source src := by
  rw [State.ackSource, SourceRec.acked]
  by_cases same : src = a
  case pos =>
    subst same
    rw [if_pos rfl]
    split
    · exact s.source_setSource src _
    · rfl
  case neg =>
    rw [if_neg same]
    split
    · exact s.source_setSource_other a src _ same
    · rfl

/-- An acknowledgement of several sources acknowledges the record of each, though one be named twice, and no other. -/
theorem State.foldl_ackSource_source (l : List Source) (s : State) (src : Source) : (l.foldl State.ackSource s).source src =
    if src ∈ l then (s.source src).acked (s.stays src) else s.source src := by
  induction l generalizing s with
  | nil => rfl
  | cons a l ih =>
    rw [List.foldl_cons, ih, State.ackSource_stays, State.ackSource_source]
    by_cases first : src = a
    case pos => simp [first, SourceRec.acked_acked]
    case neg => simp [first]

/-- The state after ACK_ALARMS with this set. -/
def State.acknowledged (s : State) (set : Nat) : State := (allSources.filter (namedSource set)).foldl State.ackSource s

/-- The record of a source after ACK_ALARMS: cleared where the set names it and it is pending and does not stay. -/
theorem State.acknowledged_source (s : State) (set : Nat) (src : Source) : (s.acknowledged set).source src =
    if namedSource set src && (s.source src).pending && !s.stays src then (s.source src).cleared else s.source src := by
  rw [State.acknowledged, State.foldl_ackSource_source]
  by_cases named : namedSource set src = true <;> simp [named, mem_allSources, SourceRec.acked]

/-- The state with other source records. -/
def State.withSources (s : State) (v : Vector SourceRec 21) : State := { s with alarms := { s.alarms with sources := v } }

theorem State.ackSource_withSources {s u : State} (only : u = s.withSources u.alarms.sources) (a : Source) :
    u.ackSource a = s.withSources (u.ackSource a).alarms.sources := by
  rw [State.ackSource]
  split
  · exact congrArg (fun w => State.setSource w a (u.source a).cleared) only
  · exact only

/-- ACK_ALARMS changes the source records alone. -/
theorem State.acknowledged_eq (s : State) (set : Nat) :
    s.acknowledged set = s.withSources (s.acknowledged set).alarms.sources :=
  foldl_keeps (P := fun u => u = s.withSources u.alarms.sources) (fun _ a only => State.ackSource_withSources only a) _ rfl

theorem State.acknowledged_frame (s : State) (set : Nat) :
    s.acknowledged set = { s with alarms := (s.acknowledged set).alarms } := by
  rw [State.acknowledged_eq]
  rfl

/-! ## The commands and the level sources -/

section
variable {s : State} {tag : Byte}

theorem setAlarmClass_answers {slot n : Nat} {u : State} {a : Answer} {payload : List Byte} (taken : s.takesAtOnce)
    (acted : actSetAlarmClass slot n s.countAccepted = (u, a)) (bytes : a.payload = payload) :
    Answers (.setAlarmClass tag slot n) s u 0xA3#8 tag payload := answers_of_act taken rfl acted rfl bytes

/-- ACK_ALARMS refuses a set with a bit above the 21 sources, and acknowledges the sources that any other set names. -/
theorem ackAlarms_answers_of_ge {set : Nat} (taken : s.takesAtOnce) (beyond : 2 ^ 21 ≤ set) :
    Answers (.ackAlarms tag set) s s.countAccepted 0xA4#8 tag [0x03#8] :=
  answers_of_act taken rfl (if_pos beyond) rfl rfl

theorem ackAlarms_answers_of_lt {set : Nat} (taken : s.takesAtOnce) (inRange : set < 2 ^ 21) :
    Answers (.ackAlarms tag set) s (s.countAccepted.acknowledged set) 0xA4#8 tag
      (0x00#8 :: (u32 (sourceSet fun src => namedSource set src && (s.source src).pending && !s.stays src)
        ++ u32 (sourceSet fun src => namedSource set src && (s.source src).pending && s.stays src))) :=
  answers_of_act taken rfl (if_neg inRange.not_ge) rfl rfl

end

theorem Source.level_iff (src : Source) : src.level = true ↔ src = .estop ∨ src = .guardOpen ∨ src = .airLow := by
  cases src <;> decide

theorem State.levelCondition_of_not_level (s : State) {src : Source} (edge : src.level = false) :
    s.levelCondition src = false := by
  cases src
  case estop | guardOpen | airLow => exact absurd edge (by decide)
  all_goals rfl

/-- Settles O59: a raise by the parts of its record and its effect on the line, each command by its owner's action, and the sets
of ACK_ALARMS by the bits of its sources. -/
theorem alarmCommands : Obligations.AlarmCommands := by
  refine ⟨fun src cls ctx s => ⟨rfl, fun raised => ?raise⟩,
    fun tag slot n s taken => ⟨fun working => ?busy, fun notRunning notHolding bad => ?bad,
      fun cls notRunning notHolding number inRange => ?good⟩,
    fun tag set s taken => ⟨ackAlarms_answers_of_ge taken, fun inRange => ?acks⟩,
    fun tag s taken => answers_of_act taken rfl rfl rfl rfl, Source.level_iff,
    fun s => ⟨rfl, decide_eq_true_iff, decide_eq_true_iff, fun src => s.levelCondition_of_not_level⟩⟩
  case raise =>
    rw [State.raise_of_ne_none s src ctx raised, State.lineEffect, State.recordRaise_line, State.recordRaise,
      SourceRec.raised_eq, Capture.judged_eq, AlarmClass.serious_eq_decide]
    rfl
  case busy =>
    exact setAlarmClass_answers taken (actSetAlarmClass_of_working (State.working_iff.mpr working)) rfl
  case bad =>
    have idle : ¬ s.working = true := fun w => (State.working_iff.mp w).elim notRunning notHolding
    exact setAlarmClass_answers taken (actSetAlarmClass_of_bad idle bad) rfl
  case good =>
    have idle : ¬ s.working = true := fun w => (State.working_iff.mp w).elim notRunning notHolding
    subst number
    exact setAlarmClass_answers taken (actSetAlarmClass_of_good (s := s.countAccepted) idle cls inRange) rfl
  case acks =>
    have answered := ackAlarms_answers_of_lt (tag := tag) taken inRange
    rw [State.acknowledged_frame] at answered
    exact ⟨s.countAccepted.acknowledged set, _, _, answered, congrArg State.alarms (s.countAccepted.acknowledged_eq set),
      s.countAccepted.acknowledged_source set, sourceSet_lt _, sourceSet_lt _,
      fun src => ⟨sourceSet_testBit _ src, sourceSet_testBit _ src⟩⟩

end Sys2Proof.Machine
